-- ==== Sys2Proof/Word.lean ====
section
/-! DEFINITION. The byte and the word of the 8086 (spec 00_scope R4). -/

namespace Sys2Proof

/-- Eight bits, bit 0 least significant (R4). -/
abbrev Byte := BitVec 8

/-- Sixteen bits, bit 0 least significant (R4). -/
abbrev Word := BitVec 16

end Sys2Proof
end

