-- ==== Sys2Proof/Machine/Bits.lean ====
section
/-! DEFINITION. Byte order, sign extension and the fields of the ModRegR/M byte (spec 20_memory R51, 30_encoding R88, R97). -/

namespace Sys2Proof

/-- Bits 7:0 of a word. -/
def loByte (w : Word) : Byte := w.extractLsb' 0 8

/-- Bits 15:8 of a word. -/
def hiByte (w : Word) : Byte := w.extractLsb' 8 8

/-- The word whose low half is `lo`, the byte at the lower address (R51). -/
def wordOf (lo hi : Byte) : Word := hi ++ lo

/-- `sext16` of R5: bit 7 copied into bits 15:8. -/
def sext16 (b : Byte) : Word := b.signExtend 16

/-- `zext16` of R5. -/
def zext16 (b : Byte) : Word := b.zeroExtend 16

/-- The ModRegR/M byte: Mod in bits 7:6, Reg in bits 5:3, R/M in bits 2:0 (R88). -/
def modrm (md : BitVec 2) (reg rm : BitVec 3) : Byte := md ++ reg ++ rm

/-- Mod, bits 7:6 (R88). -/
def modOf (m : Byte) : BitVec 2 := m.extractLsb' 6 2

/-- Reg, bits 5:3 (R88). -/
def regOf (m : Byte) : BitVec 3 := m.extractLsb' 3 3

/-- R/M, bits 2:0 (R88). -/
def rmOf (m : Byte) : BitVec 3 := m.extractLsb' 0 3

end Sys2Proof
end

