-- ==== Sys2Proof/Config.lean ====
section
/-! DEFINITION. The open parameters of the spec (92_eei_decisions) and the free values. -/

namespace Sys2Proof

/-- What the platform has at an address of its `MemMap` (20_memory R73): RAM returns the last value written, ROM ignores
writes. An address of neither kind is undeclared. -/
inductive MemKind
  | ram
  | rom
deriving DecidableEq, Repr

/-- A stretch of `size` bytes from physical address `base` (R73). -/
structure Region where
  base : Nat
  size : Nat
  kind : MemKind
deriving DecidableEq, Repr

/-- The parameters the spec leaves to the platform (92_eei_decisions, open parameters). No step changes them. -/
structure Params where
  /-- `MemMap` (R73, D4): the first region that holds an address decides; no region, undeclared. -/
  memMap : List Region
  /-- `WORD_OFFSET_WRAP` (R56, D1). -/
  wordOffsetWrap : Bool
  /-- `REP_INTERRUPTIBLE` (R309, D7). -/
  repInterruptible : Bool
  /-- `PREFETCH_DEPTH` (R70, R378, D3): how many bytes past an instruction may have been fetched before it executes. -/
  prefetchDepth : Nat
deriving DecidableEq, Repr

namespace Config

/-- The parameters at reset: D1's, D3's and D7's defaults; all 2^20 bytes are RAM. DESIGN CHOICE (the spec has no default
`MemMap`), unsafe: notes/assumptions/1.md. -/
def params : Params where
  memMap := [⟨0, 2 ^ 20, .ram⟩]
  wordOffsetWrap := true
  repInterruptible := false
  prefetchDepth := 0

/-- What an address reads as that memory does not list. DESIGN CHOICE (R73: initial contents are the platform's), unsafe:
notes/assumptions/2.md. -/
def unlistedByte : Byte := 0

/-- The n-th drawn flag: a flag the spec calls undefined takes an unspecified value (R5 `undefined(F)`, D21). Safe:
notes/assumptions/8.md. -/
opaque freeFlag : Nat → Bool

/-- The n-th drawn word: general registers after a reset (R37, D26), answers of ports the environment has not given (R66,
D5), how far a fetch ahead has come (R70, D3). Safe: notes/assumptions/6.md, notes/assumptions/8.md, notes/assumptions/12.md. -/
opaque freeWord : Nat → Word

end Config
end Sys2Proof
end

