-- ==== Sys2Proof/Syntax.lean ====
section
/-! DEFINITION. Operands and instructions of the 8086, one constructor of `Instr` per instruction form of
spec/opcode_table.json (notes/assumptions/14.md names the rows that share one). -/

namespace Sys2Proof

/-- Byte registers, in the order of their numbers (30_encoding R90). -/
inductive Reg8
  | al | cl | dl | bl | ah | ch | dh | bh
deriving DecidableEq, Repr

/-- Word registers, in the order of their numbers (R90). -/
inductive Reg16
  | ax | cx | dx | bx | sp | bp | si | di
deriving DecidableEq, Repr

/-- Segment registers, in the order of their numbers (R91). -/
inductive SReg
  | es | cs | ss | ds
deriving DecidableEq, Repr

/-- Address registers of a memory operand, in the order of R/M (R92). -/
inductive Base
  | bxsi | bxdi | bpsi | bpdi | si | di | bp | bx
deriving DecidableEq, Repr

/-- A ModRegR/M memory operand (R92): one constructor per displacement form, so that no bit of the encoding is lost. -/
inductive MemOp
  /-- Mod=00, R/M=110: the 16-bit displacement alone. -/
  | abs (disp : Word)
  /-- Mod=00: no displacement. There is no such form with BP alone (R92), `MemOp.wf`. -/
  | ind (base : Base)
  /-- Mod=01: 8-bit displacement. -/
  | ind8 (base : Base) (disp : Byte)
  /-- Mod=10: 16-bit displacement. -/
  | ind16 (base : Base) (disp : Word)
deriving DecidableEq, Repr

/-- `r/m8` (R96). -/
inductive Rm8
  | reg (r : Reg8)
  | mem (m : MemOp)
deriving DecidableEq, Repr

/-- `r/m16` (R96). -/
inductive Rm16
  | reg (r : Reg16)
  | mem (m : MemOp)
deriving DecidableEq, Repr

/-- The instructions. Each prefix byte is one too: it records itself for the instruction that follows (R85). -/
inductive Instr
  /-- ADD r/m8, r8 (00 /r), R161. -/
  | addRm8R8 (d : Rm8) (r : Reg8)
  /-- ADD r/m16, r16 (01 /r), R161. -/
  | addRm16R16 (d : Rm16) (r : Reg16)
  /-- ADD r8, r/m8 (02 /r), R161. -/
  | addR8Rm8 (r : Reg8) (m : Rm8)
  /-- ADD r16, r/m16 (03 /r), R161. -/
  | addR16Rm16 (r : Reg16) (m : Rm16)
  /-- ADD AL, imm8 (04 ib), R161. -/
  | addAlImm8 (i : Byte)
  /-- ADD AX, imm16 (05 iw), R161. -/
  | addAxImm16 (i : Word)
  /-- ADD r/m8, imm8 (80 /0 ib), R161. -/
  | addRm8Imm8 (d : Rm8) (i : Byte)
  /-- ADD r/m16, imm16 (81 /0 iw), R161. -/
  | addRm16Imm16 (d : Rm16) (i : Word)
  /-- ADD r/m16, imm8 sign-extended (83 /0 ib), R161. -/
  | addRm16Imm8 (d : Rm16) (i : Byte)
  /-- OR r/m8, r8 (08 /r), R192. -/
  | orRm8R8 (d : Rm8) (r : Reg8)
  /-- OR r/m16, r16 (09 /r), R192. -/
  | orRm16R16 (d : Rm16) (r : Reg16)
  /-- OR r8, r/m8 (0A /r), R192. -/
  | orR8Rm8 (r : Reg8) (m : Rm8)
  /-- OR r16, r/m16 (0B /r), R192. -/
  | orR16Rm16 (r : Reg16) (m : Rm16)
  /-- OR AL, imm8 (0C ib), R192. -/
  | orAlImm8 (i : Byte)
  /-- OR AX, imm16 (0D iw), R192. -/
  | orAxImm16 (i : Word)
  /-- OR r/m8, imm8 (80 /1 ib), R192. -/
  | orRm8Imm8 (d : Rm8) (i : Byte)
  /-- OR r/m16, imm16 (81 /1 iw), R192. -/
  | orRm16Imm16 (d : Rm16) (i : Word)
  /-- ADC r/m8, r8 (10 /r), R162. -/
  | adcRm8R8 (d : Rm8) (r : Reg8)
  /-- ADC r/m16, r16 (11 /r), R162. -/
  | adcRm16R16 (d : Rm16) (r : Reg16)
  /-- ADC r8, r/m8 (12 /r), R162. -/
  | adcR8Rm8 (r : Reg8) (m : Rm8)
  /-- ADC r16, r/m16 (13 /r), R162. -/
  | adcR16Rm16 (r : Reg16) (m : Rm16)
  /-- ADC AL, imm8 (14 ib), R162. -/
  | adcAlImm8 (i : Byte)
  /-- ADC AX, imm16 (15 iw), R162. -/
  | adcAxImm16 (i : Word)
  /-- ADC r/m8, imm8 (80 /2 ib), R162. -/
  | adcRm8Imm8 (d : Rm8) (i : Byte)
  /-- ADC r/m16, imm16 (81 /2 iw), R162. -/
  | adcRm16Imm16 (d : Rm16) (i : Word)
  /-- ADC r/m16, imm8 sign-extended (83 /2 ib), R162. -/
  | adcRm16Imm8 (d : Rm16) (i : Byte)
  /-- SBB r/m8, r8 (18 /r), R164. -/
  | sbbRm8R8 (d : Rm8) (r : Reg8)
  /-- SBB r/m16, r16 (19 /r), R164. -/
  | sbbRm16R16 (d : Rm16) (r : Reg16)
  /-- SBB r8, r/m8 (1A /r), R164. -/
  | sbbR8Rm8 (r : Reg8) (m : Rm8)
  /-- SBB r16, r/m16 (1B /r), R164. -/
  | sbbR16Rm16 (r : Reg16) (m : Rm16)
  /-- SBB AL, imm8 (1C ib), R164. -/
  | sbbAlImm8 (i : Byte)
  /-- SBB AX, imm16 (1D iw), R164. -/
  | sbbAxImm16 (i : Word)
  /-- SBB r/m8, imm8 (80 /3 ib), R164. -/
  | sbbRm8Imm8 (d : Rm8) (i : Byte)
  /-- SBB r/m16, imm16 (81 /3 iw), R164. -/
  | sbbRm16Imm16 (d : Rm16) (i : Word)
  /-- SBB r/m16, imm8 sign-extended (83 /3 ib), R164. -/
  | sbbRm16Imm8 (d : Rm16) (i : Byte)
  /-- AND r/m8, r8 (20 /r), R191. -/
  | andRm8R8 (d : Rm8) (r : Reg8)
  /-- AND r/m16, r16 (21 /r), R191. -/
  | andRm16R16 (d : Rm16) (r : Reg16)
  /-- AND r8, r/m8 (22 /r), R191. -/
  | andR8Rm8 (r : Reg8) (m : Rm8)
  /-- AND r16, r/m16 (23 /r), R191. -/
  | andR16Rm16 (r : Reg16) (m : Rm16)
  /-- AND AL, imm8 (24 ib), R191. -/
  | andAlImm8 (i : Byte)
  /-- AND AX, imm16 (25 iw), R191. -/
  | andAxImm16 (i : Word)
  /-- AND r/m8, imm8 (80 /4 ib), R191. -/
  | andRm8Imm8 (d : Rm8) (i : Byte)
  /-- AND r/m16, imm16 (81 /4 iw), R191. -/
  | andRm16Imm16 (d : Rm16) (i : Word)
  /-- SUB r/m8, r8 (28 /r), R163. -/
  | subRm8R8 (d : Rm8) (r : Reg8)
  /-- SUB r/m16, r16 (29 /r), R163. -/
  | subRm16R16 (d : Rm16) (r : Reg16)
  /-- SUB r8, r/m8 (2A /r), R163. -/
  | subR8Rm8 (r : Reg8) (m : Rm8)
  /-- SUB r16, r/m16 (2B /r), R163. -/
  | subR16Rm16 (r : Reg16) (m : Rm16)
  /-- SUB AL, imm8 (2C ib), R163. -/
  | subAlImm8 (i : Byte)
  /-- SUB AX, imm16 (2D iw), R163. -/
  | subAxImm16 (i : Word)
  /-- SUB r/m8, imm8 (80 /5 ib), R163. -/
  | subRm8Imm8 (d : Rm8) (i : Byte)
  /-- SUB r/m16, imm16 (81 /5 iw), R163. -/
  | subRm16Imm16 (d : Rm16) (i : Word)
  /-- SUB r/m16, imm8 sign-extended (83 /5 ib), R163. -/
  | subRm16Imm8 (d : Rm16) (i : Byte)
  /-- XOR r/m8, r8 (30 /r), R193. -/
  | xorRm8R8 (d : Rm8) (r : Reg8)
  /-- XOR r/m16, r16 (31 /r), R193. -/
  | xorRm16R16 (d : Rm16) (r : Reg16)
  /-- XOR r8, r/m8 (32 /r), R193. -/
  | xorR8Rm8 (r : Reg8) (m : Rm8)
  /-- XOR r16, r/m16 (33 /r), R193. -/
  | xorR16Rm16 (r : Reg16) (m : Rm16)
  /-- XOR AL, imm8 (34 ib), R193. -/
  | xorAlImm8 (i : Byte)
  /-- XOR AX, imm16 (35 iw), R193. -/
  | xorAxImm16 (i : Word)
  /-- XOR r/m8, imm8 (80 /6 ib), R193. -/
  | xorRm8Imm8 (d : Rm8) (i : Byte)
  /-- XOR r/m16, imm16 (81 /6 iw), R193. -/
  | xorRm16Imm16 (d : Rm16) (i : Word)
  /-- CMP r/m8, r8 (38 /r), R165. -/
  | cmpRm8R8 (d : Rm8) (r : Reg8)
  /-- CMP r/m16, r16 (39 /r), R165. -/
  | cmpRm16R16 (d : Rm16) (r : Reg16)
  /-- CMP r8, r/m8 (3A /r), R165. -/
  | cmpR8Rm8 (r : Reg8) (m : Rm8)
  /-- CMP r16, r/m16 (3B /r), R165. -/
  | cmpR16Rm16 (r : Reg16) (m : Rm16)
  /-- CMP AL, imm8 (3C ib), R165. -/
  | cmpAlImm8 (i : Byte)
  /-- CMP AX, imm16 (3D iw), R165. -/
  | cmpAxImm16 (i : Word)
  /-- CMP r/m8, imm8 (80 /7 ib), R165. -/
  | cmpRm8Imm8 (d : Rm8) (i : Byte)
  /-- CMP r/m16, imm16 (81 /7 iw), R165. -/
  | cmpRm16Imm16 (d : Rm16) (i : Word)
  /-- CMP r/m16, imm8 sign-extended (83 /7 ib), R165. -/
  | cmpRm16Imm8 (d : Rm16) (i : Byte)
  /-- PUSH ES (06), R128. -/
  | pushEs
  /-- PUSH CS (0E), R128. -/
  | pushCs
  /-- PUSH SS (16), R128. -/
  | pushSs
  /-- PUSH DS (1E), R128. -/
  | pushDs
  /-- PUSH r16 (50+rw), R127. -/
  | pushR16 (r : Reg16)
  /-- PUSH r/m16 (FF /6), R126. -/
  | pushRm16 (m : Rm16)
  /-- POP ES (07), R131. -/
  | popEs
  /-- POP SS (17), R131. -/
  | popSs
  /-- POP DS (1F), R131. -/
  | popDs
  /-- POP r16 (58+rw), R130. -/
  | popR16 (r : Reg16)
  /-- POP r/m16 (8F /0), R129. -/
  | popRm16 (d : Rm16)
  /-- ES: prefix (26), R300. -/
  | segEs
  /-- CS: prefix (2E), R300. -/
  | segCs
  /-- SS: prefix (36), R300. -/
  | segSs
  /-- DS: prefix (3E), R300. -/
  | segDs
  /-- LOCK prefix (F0), R302. -/
  | lock
  /-- REPNE / REPNZ prefix (F2), R305. -/
  | repne
  /-- REP / REPE / REPZ prefix (F3), R305. -/
  | rep
  /-- DAA (27), R202. -/
  | daa
  /-- DAS (2F), R203. -/
  | das
  /-- AAA (37), R198. -/
  | aaa
  /-- AAS (3F), R199. -/
  | aas
  /-- AAM (D4 0A), R200, R105. -/
  | aam
  /-- AAD (D5 0A), R201, R105. -/
  | aad
  /-- INC r16 (40+rw), R166. -/
  | incR16 (r : Reg16)
  /-- INC r/m8 (FE /0), R166. -/
  | incRm8 (d : Rm8)
  /-- INC r/m16 (FF /0), R166. -/
  | incRm16 (d : Rm16)
  /-- DEC r16 (48+rw), R167. -/
  | decR16 (r : Reg16)
  /-- DEC r/m8 (FE /1), R167. -/
  | decRm8 (d : Rm8)
  /-- DEC r/m16 (FF /1), R167. -/
  | decRm16 (d : Rm16)
  /-- JO rel8 (70 cb), R260. -/
  | jo (d : Byte)
  /-- JNO rel8 (71 cb), R261. -/
  | jno (d : Byte)
  /-- JB = JNAE = JC rel8 (72 cb), R262. -/
  | jb (d : Byte)
  /-- JNB = JAE = JNC rel8 (73 cb), R263. -/
  | jnb (d : Byte)
  /-- JE = JZ rel8 (74 cb), R264. -/
  | je (d : Byte)
  /-- JNE = JNZ rel8 (75 cb), R265. -/
  | jne (d : Byte)
  /-- JBE = JNA rel8 (76 cb), R266. -/
  | jbe (d : Byte)
  /-- JNBE = JA rel8 (77 cb), R267. -/
  | jnbe (d : Byte)
  /-- JS rel8 (78 cb), R268. -/
  | js (d : Byte)
  /-- JNS rel8 (79 cb), R269. -/
  | jns (d : Byte)
  /-- JP = JPE rel8 (7A cb), R270. -/
  | jp (d : Byte)
  /-- JNP = JPO rel8 (7B cb), R271. -/
  | jnp (d : Byte)
  /-- JL = JNGE rel8 (7C cb), R272. -/
  | jl (d : Byte)
  /-- JNL = JGE rel8 (7D cb), R273. -/
  | jnl (d : Byte)
  /-- JLE = JNG rel8 (7E cb), R274. -/
  | jle (d : Byte)
  /-- JNLE = JG rel8 (7F cb), R275. -/
  | jnle (d : Byte)
  /-- TEST r/m8, r8 (84 /r), R195. -/
  | testRm8R8 (a : Rm8) (r : Reg8)
  /-- TEST r/m16, r16 (85 /r), R195. -/
  | testRm16R16 (a : Rm16) (r : Reg16)
  /-- TEST AL, imm8 (A8 ib), R195. -/
  | testAlImm8 (i : Byte)
  /-- TEST AX, imm16 (A9 iw), R195. -/
  | testAxImm16 (i : Word)
  /-- TEST r/m8, imm8 (F6 /0 ib), R195. -/
  | testRm8Imm8 (a : Rm8) (i : Byte)
  /-- TEST r/m16, imm16 (F7 /0 iw), R195. -/
  | testRm16Imm16 (a : Rm16) (i : Word)
  /-- XCHG r/m8, r8 (86 /r), R125. -/
  | xchgRm8R8 (m : Rm8) (r : Reg8)
  /-- XCHG r/m16, r16 (87 /r), R125. -/
  | xchgRm16R16 (m : Rm16) (r : Reg16)
  /-- XCHG AX, CX (91), R125. -/
  | xchgAxCx
  /-- XCHG AX, DX (92), R125. -/
  | xchgAxDx
  /-- XCHG AX, BX (93), R125. -/
  | xchgAxBx
  /-- XCHG AX, SP (94), R125. -/
  | xchgAxSp
  /-- XCHG AX, BP (95), R125. -/
  | xchgAxBp
  /-- XCHG AX, SI (96), R125. -/
  | xchgAxSi
  /-- XCHG AX, DI (97), R125. -/
  | xchgAxDi
  /-- MOV r/m8, r8 (88 /r), R120. -/
  | movRm8R8 (d : Rm8) (r : Reg8)
  /-- MOV r/m16, r16 (89 /r), R120. -/
  | movRm16R16 (d : Rm16) (r : Reg16)
  /-- MOV r8, r/m8 (8A /r), R120. -/
  | movR8Rm8 (r : Reg8) (m : Rm8)
  /-- MOV r16, r/m16 (8B /r), R120. -/
  | movR16Rm16 (r : Reg16) (m : Rm16)
  /-- MOV r/m16, Sreg (8C /r), R121. -/
  | movRm16Sreg (d : Rm16) (r : SReg)
  /-- MOV ES, r/m16 (8E /0), R121. -/
  | movEsRm16 (m : Rm16)
  /-- MOV SS, r/m16 (8E /2), R121. -/
  | movSsRm16 (m : Rm16)
  /-- MOV DS, r/m16 (8E /3), R121. -/
  | movDsRm16 (m : Rm16)
  /-- MOV AL, m8 (A0 ow), R122. -/
  | movAlM8 (o : Word)
  /-- MOV AX, m16 (A1 ow), R122. -/
  | movAxM16 (o : Word)
  /-- MOV m8, AL (A2 ow), R122. -/
  | movM8Al (o : Word)
  /-- MOV m16, AX (A3 ow), R122. -/
  | movM16Ax (o : Word)
  /-- MOV r8, imm8 (B0+rb ib), R123. -/
  | movR8Imm8 (r : Reg8) (i : Byte)
  /-- MOV r16, imm16 (B8+rw iw), R123. -/
  | movR16Imm16 (r : Reg16) (i : Word)
  /-- MOV r/m8, imm8 (C6 /0 ib), R124. -/
  | movRm8Imm8 (d : Rm8) (i : Byte)
  /-- MOV r/m16, imm16 (C7 /0 iw), R124. -/
  | movRm16Imm16 (d : Rm16) (i : Word)
  /-- LEA r16, m (8D /r), R136. -/
  | lea (r : Reg16) (m : MemOp)
  /-- LES r16, m16:16 (C4 /r), R138. -/
  | les (r : Reg16) (m : MemOp)
  /-- LDS r16, m16:16 (C5 /r), R137. -/
  | lds (r : Reg16) (m : MemOp)
  /-- NOP (90), R287. -/
  | nop
  /-- CBW (98), R140. -/
  | cbw
  /-- CWD (99), R146. -/
  | cwd
  /-- WAIT (9B), R289. -/
  | wait
  /-- PUSHF (9C), R132. -/
  | pushf
  /-- POPF (9D), R133. -/
  | popf
  /-- SAHF (9E), R135. -/
  | sahf
  /-- LAHF (9F), R134. -/
  | lahf
  /-- MOVSB (A4), R231. -/
  | movsb
  /-- MOVSW (A5), R231. -/
  | movsw
  /-- CMPSB (A6), R232. -/
  | cmpsb
  /-- CMPSW (A7), R232. -/
  | cmpsw
  /-- STOSB (AA), R235. -/
  | stosb
  /-- STOSW (AB), R235. -/
  | stosw
  /-- LODSB (AC), R234. -/
  | lodsb
  /-- LODSW (AD), R234. -/
  | lodsw
  /-- SCASB (AE), R233. -/
  | scasb
  /-- SCASW (AF), R233. -/
  | scasw
  /-- RET imm16, near (C2 iw), R256. -/
  | retNearImm16 (i : Word)
  /-- RET near (C3), R255. -/
  | retNear
  /-- RET imm16, far (CA iw), R258. -/
  | retFarImm16 (i : Word)
  /-- RET far (CB), R257. -/
  | retFar
  /-- INT 3 (CC), R401. -/
  | int3
  /-- INT imm8 (CD ib), R400. -/
  | int (n : Byte)
  /-- INTO (CE), R402. -/
  | into
  /-- IRET (CF), R403. -/
  | iret
  /-- ROL r/m8, 1 (D0 /0), R211. -/
  | rolRm8One (d : Rm8)
  /-- ROL r/m16, 1 (D1 /0), R211. -/
  | rolRm16One (d : Rm16)
  /-- ROL r/m8, CL (D2 /0), R211. -/
  | rolRm8Cl (d : Rm8)
  /-- ROL r/m16, CL (D3 /0), R211. -/
  | rolRm16Cl (d : Rm16)
  /-- ROR r/m8, 1 (D0 /1), R212. -/
  | rorRm8One (d : Rm8)
  /-- ROR r/m16, 1 (D1 /1), R212. -/
  | rorRm16One (d : Rm16)
  /-- ROR r/m8, CL (D2 /1), R212. -/
  | rorRm8Cl (d : Rm8)
  /-- ROR r/m16, CL (D3 /1), R212. -/
  | rorRm16Cl (d : Rm16)
  /-- RCL r/m8, 1 (D0 /2), R213. -/
  | rclRm8One (d : Rm8)
  /-- RCL r/m16, 1 (D1 /2), R213. -/
  | rclRm16One (d : Rm16)
  /-- RCL r/m8, CL (D2 /2), R213. -/
  | rclRm8Cl (d : Rm8)
  /-- RCL r/m16, CL (D3 /2), R213. -/
  | rclRm16Cl (d : Rm16)
  /-- RCR r/m8, 1 (D0 /3), R214. -/
  | rcrRm8One (d : Rm8)
  /-- RCR r/m16, 1 (D1 /3), R214. -/
  | rcrRm16One (d : Rm16)
  /-- RCR r/m8, CL (D2 /3), R214. -/
  | rcrRm8Cl (d : Rm8)
  /-- RCR r/m16, CL (D3 /3), R214. -/
  | rcrRm16Cl (d : Rm16)
  /-- SAL = SHL r/m8, 1 (D0 /4), R215. -/
  | salRm8One (d : Rm8)
  /-- SAL = SHL r/m16, 1 (D1 /4), R215. -/
  | salRm16One (d : Rm16)
  /-- SAL = SHL r/m8, CL (D2 /4), R215. -/
  | salRm8Cl (d : Rm8)
  /-- SAL = SHL r/m16, CL (D3 /4), R215. -/
  | salRm16Cl (d : Rm16)
  /-- SHR r/m8, 1 (D0 /5), R216. -/
  | shrRm8One (d : Rm8)
  /-- SHR r/m16, 1 (D1 /5), R216. -/
  | shrRm16One (d : Rm16)
  /-- SHR r/m8, CL (D2 /5), R216. -/
  | shrRm8Cl (d : Rm8)
  /-- SHR r/m16, CL (D3 /5), R216. -/
  | shrRm16Cl (d : Rm16)
  /-- SAR r/m8, 1 (D0 /7), R217. -/
  | sarRm8One (d : Rm8)
  /-- SAR r/m16, 1 (D1 /7), R217. -/
  | sarRm16One (d : Rm16)
  /-- SAR r/m8, CL (D2 /7), R217. -/
  | sarRm8Cl (d : Rm8)
  /-- SAR r/m16, CL (D3 /7), R217. -/
  | sarRm16Cl (d : Rm16)
  /-- XLATB (D7), R141. -/
  | xlatb
  /-- ESC (D8 to DF /r): low three opcode bits, then Reg, as one number; R290. -/
  | esc (op6 : BitVec 6) (m : Rm16)
  /-- LOOPNE = LOOPNZ rel8 (E0 cb), R279. -/
  | loopne (d : Byte)
  /-- LOOPE = LOOPZ rel8 (E1 cb), R278. -/
  | loope (d : Byte)
  /-- LOOP rel8 (E2 cb), R277. -/
  | loop (d : Byte)
  /-- JCXZ rel8 (E3 cb), R276. -/
  | jcxz (d : Byte)
  /-- IN AL, imm8 (E4 ib), R142. -/
  | inAlImm8 (p : Byte)
  /-- IN AX, imm8 (E5 ib), R142. -/
  | inAxImm8 (p : Byte)
  /-- OUT: AL to port imm8 (E6 ib), R144. -/
  | outImm8Al (p : Byte)
  /-- OUT: AX to port imm8 (E7 ib), R144. -/
  | outImm8Ax (p : Byte)
  /-- IN AL, DX (EC), R143. -/
  | inAlDx
  /-- IN AX, DX (ED), R143. -/
  | inAxDx
  /-- OUT: AL to port DX (EE), R145. -/
  | outDxAl
  /-- OUT: AX to port DX (EF), R145. -/
  | outDxAx
  /-- CALL rel16 (E8 cw), R251. -/
  | callRel16 (d : Word)
  /-- CALL ptr16:16 (9A cd), offset then selector, R253. -/
  | callFar (o : Word) (g : Word)
  /-- CALL r/m16 (FF /2), R252. -/
  | callRm16 (m : Rm16)
  /-- CALL m16:16 (FF /3), R254. -/
  | callM (m : MemOp)
  /-- JMP rel8 (EB cb), R246. -/
  | jmpRel8 (d : Byte)
  /-- JMP rel16 (E9 cw), R247. -/
  | jmpRel16 (d : Word)
  /-- JMP ptr16:16 (EA cd), offset then selector, R249. -/
  | jmpFar (o : Word) (g : Word)
  /-- JMP r/m16 (FF /4), R248. -/
  | jmpRm16 (m : Rm16)
  /-- JMP m16:16 (FF /5), R250. -/
  | jmpM (m : MemOp)
  /-- HLT (F4), R288. -/
  | hlt
  /-- CMC (F5), R282. -/
  | cmc
  /-- the encodings R103 refuses: first opcode byte and the byte that follows it. -/
  | unused (op : Byte) (next : Byte)
  /-- NOT r/m8 (F6 /2), R194. -/
  | notRm8 (d : Rm8)
  /-- NOT r/m16 (F7 /2), R194. -/
  | notRm16 (d : Rm16)
  /-- NEG r/m8 (F6 /3), R168. -/
  | negRm8 (d : Rm8)
  /-- NEG r/m16 (F7 /3), R168. -/
  | negRm16 (d : Rm16)
  /-- MUL r/m8 (F6 /4), R173. -/
  | mulRm8 (m : Rm8)
  /-- MUL r/m16 (F7 /4), R173. -/
  | mulRm16 (m : Rm16)
  /-- IMUL r/m8 (F6 /5), R174. -/
  | imulRm8 (m : Rm8)
  /-- IMUL r/m16 (F7 /5), R174. -/
  | imulRm16 (m : Rm16)
  /-- DIV r/m8 (F6 /6), R175. -/
  | divRm8 (m : Rm8)
  /-- DIV r/m16 (F7 /6), R175. -/
  | divRm16 (m : Rm16)
  /-- IDIV r/m8 (F6 /7), R176. -/
  | idivRm8 (m : Rm8)
  /-- IDIV r/m16 (F7 /7), R176. -/
  | idivRm16 (m : Rm16)
  /-- CLC (F8), R280. -/
  | clc
  /-- STC (F9), R281. -/
  | stc
  /-- CLI (FA), R285. -/
  | cli
  /-- STI (FB), R286. -/
  | sti
  /-- CLD (FC), R283. -/
  | cld
  /-- STD (FD), R284. -/
  | std
deriving DecidableEq, Repr

end Sys2Proof
end

