-- ==== Sys2Proof/Machine/State.lean ====
section
/-! DEFINITION. The state of the machine, its reset value, and the reasons a step can stop (spec 10_state, 70_reset). -/

namespace Sys2Proof.Machine

/-- The eight general registers (R10). Their byte halves alias them (R11): `State.reg8`, `State.setReg8`. -/
structure Regs where
  ax : Word
  cx : Word
  dx : Word
  bx : Word
  sp : Word
  bp : Word
  si : Word
  di : Word
deriving DecidableEq, Repr

/-- The four segment registers (R14). -/
structure Segs where
  es : Word
  cs : Word
  ss : Word
  ds : Word
deriving DecidableEq, Repr

/-- The nine defined bits of FLAGS (R18). The other seven are hard-wired (R19, D29): `Flags.toWord`, `Flags.ofWord`. -/
structure Flags where
  CF : Bool
  PF : Bool
  AF : Bool
  ZF : Bool
  SF : Bool
  TF : Bool
  IF : Bool
  DF : Bool
  OF : Bool
deriving DecidableEq, Repr

/-- The two repeat prefixes (R85, R304). -/
inductive RepKind
  | rep
  | repne
deriving DecidableEq, Repr

/-- The prefixes collected for the instruction in progress, at most one of each group (R85, R86). -/
structure Prefixes where
  seg : Option SReg
  lock : Bool
  rep : Option RepKind
deriving DecidableEq, Repr

/-- No prefix. -/
def Prefixes.none : Prefixes := ⟨Option.none, false, Option.none⟩

/-- What the boundary that ends this step examines. -/
inductive Pause
  /-- The instruction is complete: everything (R340). -/
  | none
  /-- The repetition of this string instruction goes on in the next step (`REP_INTERRUPTIBLE`): NMI and INT, not the trace
  (R309, R344), notes/assumptions/11.md. -/
  | repeating (i : Instr)
  /-- WAIT is not ready: no interrupt is taken (R289, D22), and the next step tests again; `next` is the offset that follows
  WAIT, notes/assumptions/15.md. -/
  | waiting (next : Word)
deriving DecidableEq, Repr

/-- One sample of the external inputs (R36). -/
structure Inputs where
  /-- The reset signal (R370). -/
  reset : Bool
  /-- The NMI line (R341). -/
  nmi : Bool
  /-- The INT line; the byte is the vector the device puts out on INTA (R329). -/
  intr : Option Byte
  /-- `coproc_ready`, which WAIT tests (R289). -/
  ready : Bool
deriving DecidableEq, Repr

/-- No request, coprocessor ready: the sample when the environment's list has ended. DESIGN CHOICE, unsafe:
notes/assumptions/5.md. -/
def Inputs.idle : Inputs := ⟨false, false, Option.none, true⟩

/-- What the processor shows the environment (R36, R66). -/
inductive BusEvent
  /-- `IoRead8(port)` answered `v` (R142, R143). -/
  | ioRead8 (port : Word) (v : Byte)
  /-- `IoRead16(port)` answered `v`: one event (D5). -/
  | ioRead16 (port : Word) (v : Word)
  /-- `IoWrite8(port, v)` (R144, R145). -/
  | ioWrite8 (port : Word) (v : Byte)
  /-- `IoWrite16(port, v)`: one event (D5). -/
  | ioWrite16 (port : Word) (v : Word)
  /-- LOCK#, held for the instruction that the prefix precedes (R302). -/
  | lock
  /-- INTA, answered by the vector byte (R329). -/
  | intAck (vector : Byte)
  /-- ESC's access signal: the coprocessor's operation and, for a memory operand, its physical address (R290). -/
  | coprocessor (op : BitVec 6) (addr : Option Nat)
deriving DecidableEq, Repr

/-- Memory as (physical address, byte) pairs in the canonical form of `Memory.wf`; an address it does not list reads as
`Config.unlistedByte`. -/
abbrev Memory := List Host.Cell

/-- The state of the machine. -/
structure State where
  /-- General registers (R10). -/
  regs : Regs
  /-- Segment registers (R14). -/
  segs : Segs
  /-- Instruction pointer (R16): while an instruction executes, `next_IP` (R17), notes/assumptions/17.md. -/
  ip : Word
  /-- FLAGS (R18). -/
  flags : Flags
  /-- The NMI-blocked latch (R33). -/
  nmiBlocked : Bool
  /-- The halt state (R34). -/
  halted : Bool
  /-- TF as it was when the current instruction began (R35). -/
  tfAtStart : Bool
  /-- Offset of the first byte, prefixes included, of the current instruction (R177, R323, R309). -/
  instrStart : Word
  /-- The prefixes of the current instruction (R85). -/
  pfx : Prefixes
  /-- What the boundary after this step examines (R289, R340, R344). -/
  pause : Pause
  /-- The bytes fetched ahead of execution, from CS:IP on (R70, R378, `PREFETCH_DEPTH`): none when the depth is 0,
  notes/assumptions/12.md. -/
  ahead : List Byte
  /-- The 2^20 bytes of memory (R50). -/
  mem : Memory
  /-- The open parameters (92_eei_decisions). -/
  cfg : Params
  /-- The samples of the input lines to come, one per boundary (R340). -/
  inputs : List Inputs
  /-- The environment's answers to port reads to come (R66). -/
  ioReplies : List Word
  /-- The events put out so far, newest first (R36). -/
  outputs : List BusEvent
  /-- How many free values have been drawn (D21, D26). -/
  draws : Nat
deriving DecidableEq, Repr

/-- The machine right after reset (R37, R371): FLAGS F002h, CS FFFFh, IP, DS, SS, ES 0000h, not halted, NMI not blocked.
The general registers, which the spec calls unpredictable, are 0000h: DESIGN CHOICE, unsafe, notes/assumptions/3.md. -/
def State.reset : State where
  regs := ⟨0, 0, 0, 0, 0, 0, 0, 0⟩
  segs := { cs := 0xFFFF, ds := 0, ss := 0, es := 0 }
  ip := 0
  flags := ⟨false, false, false, false, false, false, false, false, false⟩
  nmiBlocked := false
  halted := false
  tfAtStart := false
  instrStart := 0
  pfx := Prefixes.none
  pause := .none
  ahead := []
  mem := []
  cfg := Config.params
  inputs := []
  ioReplies := []
  outputs := []
  draws := 0

/-- The machine stops with no next state because the platform gives it nothing there. -/
inductive Fault
  /-- An access (fetch, operand, stack, vector) to a physical address that `MemMap` does not declare (R73, D4): raised by
  `State.physRead8`, `State.memWrite8` and the fetch. Safe: the spec forbids giving it a value, notes/assumptions/19.md. -/
  | undeclaredAddress (a : Nat)
deriving DecidableEq, Repr

/-- The spec gives no meaning: the model has no next state. -/
inductive Refusal
  /-- The instruction has no meaning in the model yet: raised by `exec`'s arms only. Safe. -/
  | notModelled (mnemonic : String)
  /-- An encoding the source calls unused or gives no meaning (R103, D6, D13, D15, D16): raised by `execUnused`. Safe. -/
  | unusedEncoding (op next : Byte)
  /-- Two prefixes of one group, or more than three prefixes (R86, U1): raised by the prefix instructions. Safe. -/
  | prefixGroupRepeated
  /-- LOCK before an instruction outside its list (R303, D18): raised by the step's prefix check. Safe. -/
  | lockNotAllowed
  /-- A repeat prefix outside the fourteen legal pairs (R307, D18): raised by the step's prefix check. Safe. -/
  | repeatNotAllowed
deriving DecidableEq, Repr

end Sys2Proof.Machine
end

