-- ==== Sys2Proof/Machine/Flags.lean ====
section
/-! DEFINITION. FLAGS as a word, and every flag computation of the spec (10_state R18 to R27). -/

namespace Sys2Proof.Machine

/-- FLAGS read as a word: the figure of R18 from bit 15 down, reserved bits 1111, 0, 0, 1 (R19). -/
def Flags.toWord (f : Flags) : Word :=
  0b1111#4 ++ BitVec.ofBool f.OF ++ BitVec.ofBool f.DF ++ BitVec.ofBool f.IF ++ BitVec.ofBool f.TF ++
    BitVec.ofBool f.SF ++ BitVec.ofBool f.ZF ++ 0#1 ++ BitVec.ofBool f.AF ++ 0#1 ++ BitVec.ofBool f.PF ++ 1#1 ++
    BitVec.ofBool f.CF

/-- FLAGS written from a word: bits 11:6, 4, 2, 0; the reserved bits of the word are ignored (R19, R133, R403). -/
def Flags.ofWord (w : Word) : Flags where
  CF := w.getLsbD 0
  PF := w.getLsbD 2
  AF := w.getLsbD 4
  ZF := w.getLsbD 6
  SF := w.getLsbD 7
  TF := w.getLsbD 8
  IF := w.getLsbD 9
  DF := w.getLsbD 10
  OF := w.getLsbD 11

/-- `even_parity(r[7:0])` (R26): an even number of ones in the low byte, for a word result too. -/
def evenParity {n : Nat} (r : BitVec n) : Bool := (List.range 8).countP (r.getLsbD ·) % 2 == 0

/-- `SetSZP_N(r)` (R24, R25, R26). -/
def Flags.setSZP {n : Nat} (f : Flags) (r : BitVec n) : Flags :=
  { f with SF := r.msb, ZF := decide (r = 0#n), PF := evenParity r }

/-- `AddFlags_N(a, b, cin)` (R27): the result and the flags, the control flags kept. -/
def addFlags {n : Nat} (f : Flags) (a b : BitVec n) (cin : Bool) : BitVec n × Flags :=
  let s := a.toNat + b.toNat + cin.toNat
  let r := BitVec.ofNat n s
  (r, { f.setSZP r with
    CF := decide (2 ^ n ≤ s)
    AF := decide (15 < a.toNat % 16 + b.toNat % 16 + cin.toNat)
    OF := a.msb == b.msb && r.msb != a.msb })

/-- `SubFlags_N(a, b, bin)` (R27). -/
def subFlags {n : Nat} (f : Flags) (a b : BitVec n) (bin : Bool) : BitVec n × Flags :=
  let r := a - b - BitVec.ofNat n bin.toNat
  (r, { f.setSZP r with
    CF := decide (a.toNat < b.toNat + bin.toNat)
    AF := decide (a.toNat % 16 < b.toNat % 16 + bin.toNat)
    OF := a.msb != b.msb && r.msb != a.msb })

/-- `LogicFlags_N(r)` (R27): OF and CF cleared, SF, ZF, PF from the result, AF the undefined value given. -/
def logicFlags {n : Nat} (f : Flags) (r : BitVec n) (af : Bool) : Flags :=
  { f.setSZP r with OF := false, CF := false, AF := af }

end Sys2Proof.Machine
end

