-- ==== Sys2Proof/Machine/Memory.lean ====
section
/-! DEFINITION. Memory as a canonical list of (physical address, byte) pairs, and the `MemMap` (spec 20_memory R50, R52, R73). -/

namespace Sys2Proof

/-- `phys(seg, off) = (seg * 16 + off) mod 2^20` (R52): the carry out of bit 19 is dropped. -/
def phys (seg off : Word) : Nat := (seg.toNat * 16 + off.toNat) % 2 ^ 20

/-- Does the region hold the address? -/
def Region.holds (r : Region) (a : Nat) : Bool := decide (r.base ≤ a) && decide (a < r.base + r.size)

/-- What `MemMap` declares at an address, if anything (R73). -/
def kindAt (map : List Region) (a : Nat) : Option MemKind := (map.find? (Region.holds · a)).map (·.kind)

end Sys2Proof

namespace Sys2Proof.Machine

/-- The byte at an address: the listed one, or `Config.unlistedByte`. -/
def Memory.read : Memory → Nat → Byte
  | [], _ => Config.unlistedByte
  | (k, v) :: m, a => if k = a then v else if a < k then Config.unlistedByte else Memory.read m a

/-- Memory with byte `b` at address `a`, kept canonical: writing `Config.unlistedByte` removes the entry. -/
def Memory.write : Memory → Nat → Byte → Memory
  | [], a, b => if b = Config.unlistedByte then [] else [(a, b)]
  | (k, v) :: m, a, b =>
    if k < a then (k, v) :: Memory.write m a b
    else
      let tail := if k = a then m else (k, v) :: m
      if b = Config.unlistedByte then tail else (a, b) :: tail

/-- Every listed address is at least `lo`, addresses strictly rise, lie in the 2^20 bytes of R50, and no entry equals what
an unlisted address reads as. -/
def Memory.wfFrom : Nat → Memory → Bool
  | _, [] => true
  | lo, (k, v) :: m => decide (lo ≤ k) && decide (k < 2 ^ 20) && decide (v ≠ Config.unlistedByte) && Memory.wfFrom (k + 1) m

/-- The canonical form: equal memories are equal lists. -/
def Memory.wf (m : Memory) : Bool := Memory.wfFrom 0 m

end Sys2Proof.Machine
end

