-- ==== Sys2Proof/Machine/Ops.lean ====
section
/-! DEFINITION. The named operations over registers, memory, stack, I/O and free values; taking an interrupt, and the
return from one (spec 10_state, 20_memory R50 to R73, 60_exceptions R330, 45_control_transfer R403). -/

namespace Sys2Proof

/-- The word register a byte register is half of (R11). -/
def Reg8.parent : Reg8 → Reg16
  | .al | .ah => .ax
  | .cl | .ch => .cx
  | .dl | .dh => .dx
  | .bl | .bh => .bx

/-- Is it the high half (R11)? -/
def Reg8.isHigh : Reg8 → Bool
  | .al | .cl | .dl | .bl => false
  | .ah | .ch | .dh | .bh => true

end Sys2Proof

namespace Sys2Proof.Machine

/-- What an operation answers: a value, or the fault that stops the machine. -/
abbrev Res (α : Type) := Except Fault α

/-- The outcome of a meaning computed in `Res`. -/
def finish : Res State → Host.Outcome State Fault Refusal
  | .ok s => .next s
  | .error f => .fault f

/-! ### Registers -/

/-- A word register (R10). -/
def Regs.get (g : Regs) : Reg16 → Word
  | .ax => g.ax
  | .cx => g.cx
  | .dx => g.dx
  | .bx => g.bx
  | .sp => g.sp
  | .bp => g.bp
  | .si => g.si
  | .di => g.di

/-- Write a word register (R10). -/
def Regs.set (g : Regs) (r : Reg16) (v : Word) : Regs :=
  match r with
  | .ax => { g with ax := v }
  | .cx => { g with cx := v }
  | .dx => { g with dx := v }
  | .bx => { g with bx := v }
  | .sp => { g with sp := v }
  | .bp => { g with bp := v }
  | .si => { g with si := v }
  | .di => { g with di := v }

/-- A segment register (R14). -/
def Segs.get (g : Segs) : SReg → Word
  | .es => g.es
  | .cs => g.cs
  | .ss => g.ss
  | .ds => g.ds

/-- Write a segment register (R14). -/
def Segs.set (g : Segs) (r : SReg) (v : Word) : Segs :=
  match r with
  | .es => { g with es := v }
  | .cs => { g with cs := v }
  | .ss => { g with ss := v }
  | .ds => { g with ds := v }

/-- `reg16[r]` (R90). -/
def State.reg16 (s : State) (r : Reg16) : Word := s.regs.get r

/-- `reg16[r] <- v`. -/
def State.setReg16 (s : State) (r : Reg16) (v : Word) : State := { s with regs := s.regs.set r v }

/-- `reg8[r]` (R90, R11). -/
def State.reg8 (s : State) (r : Reg8) : Byte :=
  if r.isHigh then hiByte (s.reg16 r.parent) else loByte (s.reg16 r.parent)

/-- `reg8[r] <- v`: the other half of the word register keeps its value (R11). -/
def State.setReg8 (s : State) (r : Reg8) (v : Byte) : State :=
  let w := s.reg16 r.parent
  s.setReg16 r.parent (if r.isHigh then wordOf (loByte w) v else wordOf v (hiByte w))

/-- `sreg[r]` (R91). -/
def State.sreg (s : State) (r : SReg) : Word := s.segs.get r

/-- `sreg[r] <- v`. -/
def State.setSreg (s : State) (r : SReg) (v : Word) : State := { s with segs := s.segs.set r v }

/-- Write the flags. -/
def State.setFlags (s : State) (f : Flags) : State := { s with flags := f }

/-- A taken transfer of control within the code segment: IP is written, and what was fetched ahead is dropped (R16, R378,
notes/assumptions/28.md). -/
def State.transfer (s : State) (v : Word) : State := { s with ip := v, ahead := [] }

/-! ### Free values and outputs -/

/-- The k-th undrawn free flag (D21). -/
def State.freeFlag (s : State) (k : Nat) : Bool := Config.freeFlag (s.draws + k)

/-- The k-th undrawn free word (D26). -/
def State.freeWord (s : State) (k : Nat) : Word := Config.freeWord (s.draws + k)

/-- Count n drawn values. -/
def State.drew (s : State) (n : Nat) : State := { s with draws := s.draws + n }

/-- Put out an event (R36). -/
def State.emit (s : State) (e : BusEvent) : State := { s with outputs := e :: s.outputs }

/-! ### Memory -/

/-- Does `MemMap` declare the physical address (R73)? -/
def State.declares (s : State) (a : Nat) : Bool := (kindAt s.cfg.memMap a).isSome

/-- `PhysRead8` (R5); an undeclared address stops (R73). -/
def State.physRead8 (s : State) (a : Nat) : Res Byte :=
  if s.declares a then .ok (s.mem.read a) else .error (.undeclaredAddress a)

/-- What a write of a declared byte leaves: RAM changed, ROM as it was (R73). -/
def State.put8 (s : State) (a : Nat) (b : Byte) : State :=
  if kindAt s.cfg.memMap a = some .ram then { s with mem := s.mem.write a b } else s

/-- `PhysWrite8` (R5); an undeclared address stops (R73). -/
def State.physWrite8 (s : State) (a : Nat) (b : Byte) : Res State :=
  if s.declares a then .ok (s.put8 a b) else .error (.undeclaredAddress a)

/-- The physical address of a word's second byte: the next offset of the segment, or the next physical address
(R56, `WORD_OFFSET_WRAP`). -/
def State.highAddr (s : State) (seg off : Word) : Nat :=
  if s.cfg.wordOffsetWrap then phys seg (off + 1) else (phys seg off + 1) % 2 ^ 20

/-- `MemRead8(seg, off)` (R55). -/
def State.memRead8 (s : State) (seg off : Word) : Res Byte := s.physRead8 (phys seg off)

/-- `MemRead16(seg, off)`, low byte at `off` (R56, R51). -/
def State.memRead16 (s : State) (seg off : Word) : Res Word := do
  let lo ← s.physRead8 (phys seg off)
  let hi ← s.physRead8 (s.highAddr seg off)
  return wordOf lo hi

/-- `MemWrite8(seg, off, v)` (R55). -/
def State.memWrite8 (s : State) (seg off : Word) (v : Byte) : Res State := s.physWrite8 (phys seg off) v

/-- `MemWrite16(seg, off, v)`, low byte at `off` (R56, R51). -/
def State.memWrite16 (s : State) (seg off : Word) (v : Word) : Res State := do
  let s ← s.physWrite8 (phys seg off) (loByte v)
  s.physWrite8 (s.highAddr seg off) (hiByte v)

/-- The far pointer at seg:off: offset word, then selector word at (off + 2) mod 2^16 (R71, D34). -/
def State.memReadFar (s : State) (seg off : Word) : Res (Word × Word) := do
  let o ← s.memRead16 seg off
  let sel ← s.memRead16 seg (off + 2)
  return (o, sel)

/-! ### Stack -/

/-- `Push16(v)` (R62). -/
def State.push16 (s : State) (v : Word) : Res State :=
  let s := s.setReg16 .sp (s.regs.sp - 2)
  s.memWrite16 s.segs.ss s.regs.sp v

/-- `Pop16()` (R63). -/
def State.pop16 (s : State) : Res (Word × State) := do
  let v ← s.memRead16 s.segs.ss s.regs.sp
  return (v, s.setReg16 .sp (s.regs.sp + 2))

/-! ### I/O -/

/-- The environment's answer to the next port read: the next of its list, or a free value (R66, D5). -/
def State.takeReply (s : State) : Word × State :=
  match s.ioReplies with
  | v :: rest => (v, { s with ioReplies := rest })
  | [] => (s.freeWord 0, s.drew 1)

/-- `IoRead8(port)` (R66). -/
def State.ioRead8 (s : State) (port : Word) : Byte × State :=
  let r := s.takeReply
  (loByte r.1, r.2.emit (.ioRead8 port (loByte r.1)))

/-- `IoRead16(port)`: one event at the given port (R66, D5). -/
def State.ioRead16 (s : State) (port : Word) : Word × State :=
  let r := s.takeReply
  (r.1, r.2.emit (.ioRead16 port r.1))

/-- `IoWrite8(port, v)` (R66). -/
def State.ioWrite8 (s : State) (port : Word) (v : Byte) : State := s.emit (.ioWrite8 port v)

/-- `IoWrite16(port, v)` (R66). -/
def State.ioWrite16 (s : State) (port : Word) (v : Word) : State := s.emit (.ioWrite16 port v)

/-! ### Interrupt entry and return -/

/-- The first physical address of a vector (R321). -/
def vectorAddr (n : Byte) : Nat := 4 * n.toNat

/-- The handler's address (selector, offset) of vector n, read at physical 4n to 4n+3 (R321, R330, D35). -/
def State.vector (s : State) (n : Byte) : Res (Word × Word) := do
  let i0 ← s.physRead8 (vectorAddr n)
  let i1 ← s.physRead8 (vectorAddr n + 1)
  let c0 ← s.physRead8 (vectorAddr n + 2)
  let c1 ← s.physRead8 (vectorAddr n + 3)
  return (wordOf c0 c1, wordOf i0 i1)

/-- `Interrupt(n, ret_CS, ret_IP)` (R330), the one entry sequence of every cause: push FLAGS, CS, IP; clear IF and TF; go
to the vector's handler; leave the halt state. -/
def State.interrupt (s : State) (n : Byte) (retCs retIp : Word) : Res State := do
  let s ← s.push16 s.flags.toWord
  let s ← s.push16 retCs
  let s ← s.push16 retIp
  let s := s.setFlags { s.flags with IF := false, TF := false }
  let v ← s.vector n
  return { (s.transfer v.2).setSreg .cs v.1 with halted := false }

/-- `raise DivideError` (R323, R177): vector 0, the saved address that of the instruction's first byte, prefixes included. -/
def State.divideError (s : State) : Res State := s.interrupt 0 s.segs.cs s.instrStart

/-- The offset a boundary's entry saves (R331): IP as the instruction left it; the first byte of a repetition that goes on
(R309). -/
def State.resumeIp (s : State) : Word :=
  match s.pause with
  | .repeating _ => s.instrStart
  | .none | .waiting _ => s.ip

/-- The entry that a boundary makes (R340): vector n; a repetition that went on is left (R309). -/
def State.enter (s : State) (n : Byte) : Res State := do
  let t ← s.interrupt n s.segs.cs s.resumeIp
  return { t with pause := .none }

/-- The NMI's entry: vector 2, and the latch is set (R330, R341). -/
def State.enterNmi (s : State) : Res State := do
  let t ← s.enter 2
  return { t with nmiBlocked := true }

/-- The return from an interrupt (R403): pop IP, CS, FLAGS; NMI is recognised again (R33). -/
def State.interruptReturn (s : State) : Res State := do
  let i ← s.pop16
  let c ← i.2.pop16
  let f ← c.2.pop16
  return { ((f.2.transfer i.1).setSreg .cs c.1).setFlags (Flags.ofWord f.1) with nmiBlocked := false }

end Sys2Proof.Machine
end

