-- ==== Sys2Proof/Machine/Boundary.lean ====
section
/-! DEFINITION. The boundary between instructions: reset, NMI, maskable interrupt, trace (spec 60_exceptions R326, R340 to
R344, 70_reset R370, R371). -/

namespace Sys2Proof.Machine

/-- The reset event (R370, R371): the listed registers take their values, the general registers are free values (D26), memory
and the environment are not touched. -/
def State.resetEvent (s : State) : State :=
  { s.drew 8 with
    regs :=
      ⟨s.freeWord 0, s.freeWord 1, s.freeWord 2, s.freeWord 3, s.freeWord 4, s.freeWord 5, s.freeWord 6, s.freeWord 7⟩
    segs := State.reset.segs
    ip := State.reset.ip
    flags := State.reset.flags
    nmiBlocked := false
    halted := false
    tfAtStart := false
    instrStart := 0
    pfx := Prefixes.none
    pause := .none
    ahead := [] }

/-- First: NMI, if requested and not blocked (R340, R341). -/
def State.examineNmi (s : State) (i : Inputs) : Res State :=
  if i.nmi && !s.nmiBlocked then s.enterNmi else .ok s

/-- Second: the maskable request, if IF is set; INTA is put out and the device's byte is the vector (R340, R342, R329). -/
def State.examineInt (s : State) (i : Inputs) : Res State :=
  match i.intr with
  | some n => if s.flags.IF then (s.emit (.intAck n)).enter n else .ok s
  | none => .ok s

/-- Third: the trace, due if TF was set when the instruction began and is set now; not while a repetition goes on (R326, R340,
R344). -/
def State.examineTrace (s : State) : Res State :=
  if s.tfAtStart && s.flags.TF && s.pause == .none then s.enter 1 else .ok s

/-- The instruction's prefixes are forgotten, unless its repetition goes on. -/
def State.clearPrefixes (s : State) : State :=
  match s.pause with
  | .repeating _ => s
  | .none | .waiting _ => { s with pfx := Prefixes.none }

/-- WAIT was not ready (R289). -/
def Pause.isWaiting : Pause → Bool
  | .waiting _ => true
  | .none | .repeating _ => false

/-- The boundary (R340): the next sample of the inputs is taken; reset wins; nothing is examined while WAIT waits (R289); else
NMI, the maskable request and, if `trace`, the trace, each against the state the one before left. -/
def State.boundary (s : State) (trace : Bool) : Res State :=
  let i := s.inputs.headD Inputs.idle
  let s := { s with inputs := s.inputs.tail }
  if i.reset then .ok s.resetEvent
  else if s.pause.isWaiting then .ok s.clearPrefixes
  else do
    let s ← s.examineNmi i
    let s ← s.examineInt i
    let s ← if trace then s.examineTrace else .ok s
    return s.clearPrefixes

end Sys2Proof.Machine
end

