-- ==== Sys2Proof/Machine/Operands.lean ====
section
/-! DEFINITION. Operand addressing: effective address, segment, the r/m operand, data segment, targets (spec 30_encoding
R92 to R98, 47_prefixes R300, R301, 45_control_transfer R245). -/

namespace Sys2Proof

/-- Does BP take part (R95)? -/
def Base.usesBp : Base → Bool
  | .bpsi | .bpdi | .bp => true
  | .bxsi | .bxdi | .si | .di | .bx => false

/-- The segment register of a memory operand without an override: SS when BP is in the address, else DS (R95). -/
def MemOp.defaultSeg : MemOp → SReg
  | .abs _ => .ds
  | .ind b | .ind8 b _ | .ind16 b _ => if b.usesBp then .ss else .ds

end Sys2Proof

namespace Sys2Proof.Machine

/-- `base(R/M)` (R93). -/
def State.base (s : State) : Base → Word
  | .bxsi => s.regs.bx + s.regs.si
  | .bxdi => s.regs.bx + s.regs.di
  | .bpsi => s.regs.bp + s.regs.si
  | .bpdi => s.regs.bp + s.regs.di
  | .si => s.regs.si
  | .di => s.regs.di
  | .bp => s.regs.bp
  | .bx => s.regs.bx

/-- `EA`, modulo 2^16 (R93); an 8-bit displacement is sign-extended (D38). -/
def State.ea (s : State) : MemOp → Word
  | .abs d => d
  | .ind b => s.base b
  | .ind8 b d => s.base b + sext16 d
  | .ind16 b d => s.base b + d

/-- `SEG`: the overriding segment register if there is one, else the default (R95, R300). -/
def State.segOf (s : State) (m : MemOp) : Word := s.sreg (s.pfx.seg.getD m.defaultSeg)

/-- The segment of a DS operand that an override can replace: direct offset, XLATB, string source (R98, R141, R237, R301). -/
def State.dataSeg (s : State) : Word := s.sreg (s.pfx.seg.getD .ds)

/-- Read `rm8` (R96). -/
def State.readRm8 (s : State) : Rm8 → Res Byte
  | .reg r => .ok (s.reg8 r)
  | .mem m => s.memRead8 (s.segOf m) (s.ea m)

/-- Write `rm8` (R96). -/
def State.writeRm8 (s : State) (d : Rm8) (v : Byte) : Res State :=
  match d with
  | .reg r => .ok (s.setReg8 r v)
  | .mem m => s.memWrite8 (s.segOf m) (s.ea m) v

/-- Read `rm16` (R96). -/
def State.readRm16 (s : State) : Rm16 → Res Word
  | .reg r => .ok (s.reg16 r)
  | .mem m => s.memRead16 (s.segOf m) (s.ea m)

/-- Write `rm16` (R96). -/
def State.writeRm16 (s : State) (d : Rm16) (v : Word) : Res State :=
  match d with
  | .reg r => .ok (s.setReg16 r v)
  | .mem m => s.memWrite16 (s.segOf m) (s.ea m) v

/-- The far pointer of an m16:16 operand (R71). -/
def State.readFar (s : State) (m : MemOp) : Res (Word × Word) := s.memReadFar (s.segOf m) (s.ea m)

/-- `target8(cb)`, from `next_IP` (R245). -/
def State.target8 (s : State) (d : Byte) : Word := s.ip + sext16 d

/-- `target16(cw)`, from `next_IP` (R245). -/
def State.target16 (s : State) (d : Word) : Word := s.ip + d

end Sys2Proof.Machine
end

