-- ==== Sys2Proof/Machine/Adjust.lean ====
section
/-! DEFINITION. Decimal and ASCII adjust instructions (spec 42_logic_bcd R196 to R203). IP is already `next_IP` (R17). -/

namespace Sys2Proof.Machine

/-- Does the low digit ask for an adjustment: AF, or `AL[3:0] > 9` (R198, R199, R202, R203). -/
def State.lowAdjust (s : State) : Bool := s.flags.AF || decide (9 < (s.reg8 .al).toNat % 16)

/-- AAA and AAS: 6 is added to or taken from AL and 1 to or from AH when the low digit asks for it; AF and CF say whether;
the high half of AL is cleared; OF, SF, ZF, PF are free values (R198, R199). -/
def asciiAdjust (s : State) (six one : Byte) : State :=
  let adj := s.lowAdjust
  let al := if adj then s.reg8 .al + six else s.reg8 .al
  let ah := if adj then s.reg8 .ah + one else s.reg8 .ah
  let f : Flags :=
    { s.flags with
      AF := adj, CF := adj
      OF := s.freeFlag 0, SF := s.freeFlag 1, ZF := s.freeFlag 2, PF := s.freeFlag 3 }
  ((s.setReg16 .ax (wordOf (al &&& 0x0F) ah)).setFlags f).drew 4

/-- The flags of AAM and AAD: SF, ZF, PF from AL; OF, AF, CF are free values (R200, R201, D13). -/
def State.setBcdFlags (s : State) (al : Byte) : State :=
  (s.setFlags { s.flags.setSZP al with OF := s.freeFlag 0, AF := s.freeFlag 1, CF := s.freeFlag 2 }).drew 3

/-- The two steps of DAA and DAS on the whole byte (R202, R203): `low` and `high` are what the steps put in AL, `carry` is
the carry or borrow out of bit 7 of the first step; OF is a free value. -/
def decimalAdjust (s : State) (low high : Byte → Byte) (carry : Bool) : State :=
  let adj := s.lowAdjust
  let al1 := if adj then low (s.reg8 .al) else s.reg8 .al
  let cf1 := s.flags.CF || (adj && carry)
  let adj2 := cf1 || decide (9 < al1.toNat / 16)
  let al2 := if adj2 then high al1 else al1
  let f := { s.flags.setSZP al2 with AF := adj, CF := adj2, OF := s.freeFlag 0 }
  ((s.setReg8 .al al2).setFlags f).drew 1

/-! ### The meanings -/

/-- DAA (27), R202. -/
def execDaa (s : State) : Host.Outcome State Fault Refusal :=
  .next (decimalAdjust s (· + 6) (· + 0x60) (decide (0xFF < (s.reg8 .al).toNat + 6)))

/-- DAS (2F), R203. -/
def execDas (s : State) : Host.Outcome State Fault Refusal :=
  .next (decimalAdjust s (· - 6) (· - 0x60) (decide ((s.reg8 .al).toNat < 6)))

/-- AAA (37), R198. -/
def execAaa (s : State) : Host.Outcome State Fault Refusal := .next (asciiAdjust s 6 1)

/-- AAS (3F), R199. -/
def execAas (s : State) : Host.Outcome State Fault Refusal := .next (asciiAdjust s (-6) (-1))

/-- AAM (D4 0A), R200, R105. -/
def execAam (s : State) : Host.Outcome State Fault Refusal :=
  let t := (s.reg8 .al).toNat
  .next ((s.setReg16 .ax (wordOf (BitVec.ofNat 8 (t % 10)) (BitVec.ofNat 8 (t / 10)))).setBcdFlags
    (BitVec.ofNat 8 (t % 10)))

/-- AAD (D5 0A), R201, R105. -/
def execAad (s : State) : Host.Outcome State Fault Refusal :=
  let al := BitVec.ofNat 8 ((s.reg8 .al).toNat + (s.reg8 .ah).toNat * 10)
  .next ((s.setReg16 .ax (wordOf al 0)).setBcdFlags al)

end Sys2Proof.Machine
end

