-- ==== Sys2Proof/Machine/Alu.lean ====
section
/-! DEFINITION. The shapes that the arithmetic, logical and shift instructions share (spec 41_arithmetic R160, 30_encoding
R96): operands read, the operation, then the write to the place of the first operand. -/

namespace Sys2Proof.Machine

/-- An operation on two operands: the result, and the state with the flags it leaves. -/
abbrev Alu (n : Nat) := State → BitVec n → BitVec n → BitVec n × State

/-- An operation on one operand. -/
abbrev Una (n : Nat) := State → BitVec n → BitVec n × State

/-- op r/m8, b (R160). -/
def updRm8 (op : Alu 8) (d : Rm8) (b : Byte) (s : State) : Host.Outcome State Fault Refusal :=
  finish do
    let a ← s.readRm8 d
    let r := op s a b
    r.2.writeRm8 d r.1

/-- op r/m16, b (R160). -/
def updRm16 (op : Alu 16) (d : Rm16) (b : Word) (s : State) : Host.Outcome State Fault Refusal :=
  finish do
    let a ← s.readRm16 d
    let r := op s a b
    r.2.writeRm16 d r.1

/-- op r8, r/m8 (R160). -/
def updR8 (op : Alu 8) (r : Reg8) (m : Rm8) (s : State) : Host.Outcome State Fault Refusal :=
  finish do
    let b ← s.readRm8 m
    let x := op s (s.reg8 r) b
    return x.2.setReg8 r x.1

/-- op r16, r/m16 (R160). -/
def updR16 (op : Alu 16) (r : Reg16) (m : Rm16) (s : State) : Host.Outcome State Fault Refusal :=
  finish do
    let b ← s.readRm16 m
    let x := op s (s.reg16 r) b
    return x.2.setReg16 r x.1

/-- op r/m8, b with the result dropped: CMP, TEST (R165, R195). -/
def cmpRm8 (op : Alu 8) (d : Rm8) (b : Byte) (s : State) : Host.Outcome State Fault Refusal :=
  finish do
    let a ← s.readRm8 d
    return (op s a b).2

/-- op r/m16, b with the result dropped (R165, R195). -/
def cmpRm16 (op : Alu 16) (d : Rm16) (b : Word) (s : State) : Host.Outcome State Fault Refusal :=
  finish do
    let a ← s.readRm16 d
    return (op s a b).2

/-- op r8, r/m8 with the result dropped (R165). -/
def cmpR8 (op : Alu 8) (r : Reg8) (m : Rm8) (s : State) : Host.Outcome State Fault Refusal :=
  finish do
    let b ← s.readRm8 m
    return (op s (s.reg8 r) b).2

/-- op r16, r/m16 with the result dropped (R165). -/
def cmpR16 (op : Alu 16) (r : Reg16) (m : Rm16) (s : State) : Host.Outcome State Fault Refusal :=
  finish do
    let b ← s.readRm16 m
    return (op s (s.reg16 r) b).2

/-- f r/m8: one read, one write (R96, R219). -/
def unRm8 (f : Una 8) (d : Rm8) (s : State) : Host.Outcome State Fault Refusal :=
  finish do
    let a ← s.readRm8 d
    let r := f s a
    r.2.writeRm8 d r.1

/-- f r/m16: one read, one write (R96, R219). -/
def unRm16 (f : Una 16) (d : Rm16) (s : State) : Host.Outcome State Fault Refusal :=
  finish do
    let a ← s.readRm16 d
    let r := f s a
    r.2.writeRm16 d r.1

end Sys2Proof.Machine
end

