-- ==== Sys2Proof/Machine/Arithmetic.lean ====
section
/-! DEFINITION. Binary arithmetic instructions (spec 41_arithmetic R160 to R177). IP is already `next_IP` (R17). -/

namespace Sys2Proof.Machine

/-! ### Operations on two operands, and on one -/

/-- ADD (R161). -/
def addOp {n : Nat} (s : State) (a b : BitVec n) : BitVec n × State :=
  let r := addFlags s.flags a b false
  (r.1, s.setFlags r.2)

/-- ADC, with CF as it was (R162). -/
def adcOp {n : Nat} (s : State) (a b : BitVec n) : BitVec n × State :=
  let r := addFlags s.flags a b s.flags.CF
  (r.1, s.setFlags r.2)

/-- SUB, and CMP, which drops the result (R163, R165). -/
def subOp {n : Nat} (s : State) (a b : BitVec n) : BitVec n × State :=
  let r := subFlags s.flags a b false
  (r.1, s.setFlags r.2)

/-- SBB, with CF as it was (R164). -/
def sbbOp {n : Nat} (s : State) (a b : BitVec n) : BitVec n × State :=
  let r := subFlags s.flags a b s.flags.CF
  (r.1, s.setFlags r.2)

/-- INC: CF keeps its value (R166). -/
def incOp {n : Nat} (s : State) (a : BitVec n) : BitVec n × State :=
  let r := addFlags s.flags a 1#n false
  (r.1, s.setFlags { r.2 with CF := s.flags.CF })

/-- DEC: CF keeps its value (R167). -/
def decOp {n : Nat} (s : State) (a : BitVec n) : BitVec n × State :=
  let r := subFlags s.flags a 1#n false
  (r.1, s.setFlags { r.2 with CF := s.flags.CF })

/-- NEG: zero minus the operand (R168). -/
def negOp {n : Nat} (s : State) (a : BitVec n) : BitVec n × State :=
  let r := subFlags s.flags 0#n a false
  (r.1, s.setFlags r.2)

/-! ### Multiply and divide -/

/-- OF and CF of MUL and IMUL: the product does not fit the operand width; no other flag changes (R173, R174). -/
def State.setWide (s : State) (wide : Bool) : State := s.setFlags { s.flags with OF := wide, CF := wide }

/-- Unsigned division with a w-bit quotient: `none` is the divide error (R175). -/
def divideUnsigned (w n d : Nat) : Option (Nat × Nat) :=
  if d = 0 then none else if 2 ^ w ≤ n / d then none else some (n / d, n % d)

/-- Signed division with a w-bit quotient truncated toward zero; the remainder has the dividend's sign (R176, D32). -/
def divideSigned (w : Nat) (n d : Int) : Option (Int × Int) :=
  if d = 0 then none
  else
    let q := n.tdiv d
    if q < -2 ^ (w - 1) ∨ 2 ^ (w - 1) ≤ q then none else some (q, n - q * d)

/-! ### The meanings -/

/-- ADD r/m8, r8 (00 /r), R161. -/
def execAddRm8R8 (d : Rm8) (r : Reg8) (s : State) : Host.Outcome State Fault Refusal := updRm8 addOp d (s.reg8 r) s

/-- ADD r/m16, r16 (01 /r), R161. -/
def execAddRm16R16 (d : Rm16) (r : Reg16) (s : State) : Host.Outcome State Fault Refusal :=
  updRm16 addOp d (s.reg16 r) s

/-- ADD r8, r/m8 (02 /r), R161. -/
def execAddR8Rm8 (r : Reg8) (m : Rm8) (s : State) : Host.Outcome State Fault Refusal := updR8 addOp r m s

/-- ADD r16, r/m16 (03 /r), R161. -/
def execAddR16Rm16 (r : Reg16) (m : Rm16) (s : State) : Host.Outcome State Fault Refusal := updR16 addOp r m s

/-- ADD AL, imm8 (04 ib), R161. -/
def execAddAlImm8 (i : Byte) (s : State) : Host.Outcome State Fault Refusal := updRm8 addOp (.reg .al) i s

/-- ADD AX, imm16 (05 iw), R161. -/
def execAddAxImm16 (i : Word) (s : State) : Host.Outcome State Fault Refusal := updRm16 addOp (.reg .ax) i s

/-- ADD r/m8, imm8 (80 /0 ib), R161. -/
def execAddRm8Imm8 (d : Rm8) (i : Byte) (s : State) : Host.Outcome State Fault Refusal := updRm8 addOp d i s

/-- ADD r/m16, imm16 (81 /0 iw), R161. -/
def execAddRm16Imm16 (d : Rm16) (i : Word) (s : State) : Host.Outcome State Fault Refusal := updRm16 addOp d i s

/-- ADD r/m16, imm8 sign-extended (83 /0 ib), R161. -/
def execAddRm16Imm8 (d : Rm16) (i : Byte) (s : State) : Host.Outcome State Fault Refusal := updRm16 addOp d (sext16 i) s

/-- ADC r/m8, r8 (10 /r), R162. -/
def execAdcRm8R8 (d : Rm8) (r : Reg8) (s : State) : Host.Outcome State Fault Refusal := updRm8 adcOp d (s.reg8 r) s

/-- ADC r/m16, r16 (11 /r), R162. -/
def execAdcRm16R16 (d : Rm16) (r : Reg16) (s : State) : Host.Outcome State Fault Refusal :=
  updRm16 adcOp d (s.reg16 r) s

/-- ADC r8, r/m8 (12 /r), R162. -/
def execAdcR8Rm8 (r : Reg8) (m : Rm8) (s : State) : Host.Outcome State Fault Refusal := updR8 adcOp r m s

/-- ADC r16, r/m16 (13 /r), R162. -/
def execAdcR16Rm16 (r : Reg16) (m : Rm16) (s : State) : Host.Outcome State Fault Refusal := updR16 adcOp r m s

/-- ADC AL, imm8 (14 ib), R162. -/
def execAdcAlImm8 (i : Byte) (s : State) : Host.Outcome State Fault Refusal := updRm8 adcOp (.reg .al) i s

/-- ADC AX, imm16 (15 iw), R162. -/
def execAdcAxImm16 (i : Word) (s : State) : Host.Outcome State Fault Refusal := updRm16 adcOp (.reg .ax) i s

/-- ADC r/m8, imm8 (80 /2 ib), R162. -/
def execAdcRm8Imm8 (d : Rm8) (i : Byte) (s : State) : Host.Outcome State Fault Refusal := updRm8 adcOp d i s

/-- ADC r/m16, imm16 (81 /2 iw), R162. -/
def execAdcRm16Imm16 (d : Rm16) (i : Word) (s : State) : Host.Outcome State Fault Refusal := updRm16 adcOp d i s

/-- ADC r/m16, imm8 sign-extended (83 /2 ib), R162. -/
def execAdcRm16Imm8 (d : Rm16) (i : Byte) (s : State) : Host.Outcome State Fault Refusal := updRm16 adcOp d (sext16 i) s

/-- SBB r/m8, r8 (18 /r), R164. -/
def execSbbRm8R8 (d : Rm8) (r : Reg8) (s : State) : Host.Outcome State Fault Refusal := updRm8 sbbOp d (s.reg8 r) s

/-- SBB r/m16, r16 (19 /r), R164. -/
def execSbbRm16R16 (d : Rm16) (r : Reg16) (s : State) : Host.Outcome State Fault Refusal :=
  updRm16 sbbOp d (s.reg16 r) s

/-- SBB r8, r/m8 (1A /r), R164. -/
def execSbbR8Rm8 (r : Reg8) (m : Rm8) (s : State) : Host.Outcome State Fault Refusal := updR8 sbbOp r m s

/-- SBB r16, r/m16 (1B /r), R164. -/
def execSbbR16Rm16 (r : Reg16) (m : Rm16) (s : State) : Host.Outcome State Fault Refusal := updR16 sbbOp r m s

/-- SBB AL, imm8 (1C ib), R164. -/
def execSbbAlImm8 (i : Byte) (s : State) : Host.Outcome State Fault Refusal := updRm8 sbbOp (.reg .al) i s

/-- SBB AX, imm16 (1D iw), R164. -/
def execSbbAxImm16 (i : Word) (s : State) : Host.Outcome State Fault Refusal := updRm16 sbbOp (.reg .ax) i s

/-- SBB r/m8, imm8 (80 /3 ib), R164. -/
def execSbbRm8Imm8 (d : Rm8) (i : Byte) (s : State) : Host.Outcome State Fault Refusal := updRm8 sbbOp d i s

/-- SBB r/m16, imm16 (81 /3 iw), R164. -/
def execSbbRm16Imm16 (d : Rm16) (i : Word) (s : State) : Host.Outcome State Fault Refusal := updRm16 sbbOp d i s

/-- SBB r/m16, imm8 sign-extended (83 /3 ib), R164. -/
def execSbbRm16Imm8 (d : Rm16) (i : Byte) (s : State) : Host.Outcome State Fault Refusal := updRm16 sbbOp d (sext16 i) s

/-- SUB r/m8, r8 (28 /r), R163. -/
def execSubRm8R8 (d : Rm8) (r : Reg8) (s : State) : Host.Outcome State Fault Refusal := updRm8 subOp d (s.reg8 r) s

/-- SUB r/m16, r16 (29 /r), R163. -/
def execSubRm16R16 (d : Rm16) (r : Reg16) (s : State) : Host.Outcome State Fault Refusal :=
  updRm16 subOp d (s.reg16 r) s

/-- SUB r8, r/m8 (2A /r), R163. -/
def execSubR8Rm8 (r : Reg8) (m : Rm8) (s : State) : Host.Outcome State Fault Refusal := updR8 subOp r m s

/-- SUB r16, r/m16 (2B /r), R163. -/
def execSubR16Rm16 (r : Reg16) (m : Rm16) (s : State) : Host.Outcome State Fault Refusal := updR16 subOp r m s

/-- SUB AL, imm8 (2C ib), R163. -/
def execSubAlImm8 (i : Byte) (s : State) : Host.Outcome State Fault Refusal := updRm8 subOp (.reg .al) i s

/-- SUB AX, imm16 (2D iw), R163. -/
def execSubAxImm16 (i : Word) (s : State) : Host.Outcome State Fault Refusal := updRm16 subOp (.reg .ax) i s

/-- SUB r/m8, imm8 (80 /5 ib), R163. -/
def execSubRm8Imm8 (d : Rm8) (i : Byte) (s : State) : Host.Outcome State Fault Refusal := updRm8 subOp d i s

/-- SUB r/m16, imm16 (81 /5 iw), R163. -/
def execSubRm16Imm16 (d : Rm16) (i : Word) (s : State) : Host.Outcome State Fault Refusal := updRm16 subOp d i s

/-- SUB r/m16, imm8 sign-extended (83 /5 ib), R163. -/
def execSubRm16Imm8 (d : Rm16) (i : Byte) (s : State) : Host.Outcome State Fault Refusal := updRm16 subOp d (sext16 i) s

/-- CMP r/m8, r8 (38 /r), R165. -/
def execCmpRm8R8 (d : Rm8) (r : Reg8) (s : State) : Host.Outcome State Fault Refusal := cmpRm8 subOp d (s.reg8 r) s

/-- CMP r/m16, r16 (39 /r), R165. -/
def execCmpRm16R16 (d : Rm16) (r : Reg16) (s : State) : Host.Outcome State Fault Refusal :=
  cmpRm16 subOp d (s.reg16 r) s

/-- CMP r8, r/m8 (3A /r), R165. -/
def execCmpR8Rm8 (r : Reg8) (m : Rm8) (s : State) : Host.Outcome State Fault Refusal := cmpR8 subOp r m s

/-- CMP r16, r/m16 (3B /r), R165. -/
def execCmpR16Rm16 (r : Reg16) (m : Rm16) (s : State) : Host.Outcome State Fault Refusal := cmpR16 subOp r m s

/-- CMP AL, imm8 (3C ib), R165. -/
def execCmpAlImm8 (i : Byte) (s : State) : Host.Outcome State Fault Refusal := cmpRm8 subOp (.reg .al) i s

/-- CMP AX, imm16 (3D iw), R165. -/
def execCmpAxImm16 (i : Word) (s : State) : Host.Outcome State Fault Refusal := cmpRm16 subOp (.reg .ax) i s

/-- CMP r/m8, imm8 (80 /7 ib), R165. -/
def execCmpRm8Imm8 (d : Rm8) (i : Byte) (s : State) : Host.Outcome State Fault Refusal := cmpRm8 subOp d i s

/-- CMP r/m16, imm16 (81 /7 iw), R165. -/
def execCmpRm16Imm16 (d : Rm16) (i : Word) (s : State) : Host.Outcome State Fault Refusal := cmpRm16 subOp d i s

/-- CMP r/m16, imm8 sign-extended (83 /7 ib), R165. -/
def execCmpRm16Imm8 (d : Rm16) (i : Byte) (s : State) : Host.Outcome State Fault Refusal := cmpRm16 subOp d (sext16 i) s

/-- INC r16 (40+rw), R166. -/
def execIncR16 (r : Reg16) (s : State) : Host.Outcome State Fault Refusal := unRm16 incOp (.reg r) s

/-- INC r/m8 (FE /0), R166. -/
def execIncRm8 (d : Rm8) (s : State) : Host.Outcome State Fault Refusal := unRm8 incOp d s

/-- INC r/m16 (FF /0), R166. -/
def execIncRm16 (d : Rm16) (s : State) : Host.Outcome State Fault Refusal := unRm16 incOp d s

/-- DEC r16 (48+rw), R167. -/
def execDecR16 (r : Reg16) (s : State) : Host.Outcome State Fault Refusal := unRm16 decOp (.reg r) s

/-- DEC r/m8 (FE /1), R167. -/
def execDecRm8 (d : Rm8) (s : State) : Host.Outcome State Fault Refusal := unRm8 decOp d s

/-- DEC r/m16 (FF /1), R167. -/
def execDecRm16 (d : Rm16) (s : State) : Host.Outcome State Fault Refusal := unRm16 decOp d s

/-- NEG r/m8 (F6 /3), R168. -/
def execNegRm8 (d : Rm8) (s : State) : Host.Outcome State Fault Refusal := unRm8 negOp d s

/-- NEG r/m16 (F7 /3), R168. -/
def execNegRm16 (d : Rm16) (s : State) : Host.Outcome State Fault Refusal := unRm16 negOp d s

/-- MUL r/m8 (F6 /4), R173. -/
def execMulRm8 (m : Rm8) (s : State) : Host.Outcome State Fault Refusal :=
  finish do
    let b ← s.readRm8 m
    let p := (s.reg8 .al).toNat * b.toNat
    return (s.setReg16 .ax (BitVec.ofNat 16 p)).setWide (decide (2 ^ 8 ≤ p))

/-- MUL r/m16 (F7 /4), R173. -/
def execMulRm16 (m : Rm16) (s : State) : Host.Outcome State Fault Refusal :=
  finish do
    let b ← s.readRm16 m
    let p := s.regs.ax.toNat * b.toNat
    return ((s.setReg16 .ax (BitVec.ofNat 16 p)).setReg16 .dx (BitVec.ofNat 16 (p / 2 ^ 16))).setWide
      (decide (2 ^ 16 ≤ p))

/-- IMUL r/m8 (F6 /5), R174. -/
def execImulRm8 (m : Rm8) (s : State) : Host.Outcome State Fault Refusal :=
  finish do
    let b ← s.readRm8 m
    let p := (s.reg8 .al).toInt * b.toInt
    return (s.setReg16 .ax (BitVec.ofInt 16 p)).setWide (!(decide (-2 ^ 7 ≤ p) && decide (p < 2 ^ 7)))

/-- IMUL r/m16 (F7 /5), R174. -/
def execImulRm16 (m : Rm16) (s : State) : Host.Outcome State Fault Refusal :=
  finish do
    let b ← s.readRm16 m
    let p := s.regs.ax.toInt * b.toInt
    let r := BitVec.ofInt 32 p
    return ((s.setReg16 .ax (r.extractLsb' 0 16)).setReg16 .dx (r.extractLsb' 16 16)).setWide
      (!(decide (-2 ^ 15 ≤ p) && decide (p < 2 ^ 15)))

/-- DIV r/m8 (F6 /6), R175. -/
def execDivRm8 (m : Rm8) (s : State) : Host.Outcome State Fault Refusal :=
  finish do
    let d ← s.readRm8 m
    match divideUnsigned 8 s.regs.ax.toNat d.toNat with
    | none => s.divideError
    | some (q, r) => return s.setReg16 .ax (wordOf (BitVec.ofNat 8 q) (BitVec.ofNat 8 r))

/-- DIV r/m16 (F7 /6), R175. -/
def execDivRm16 (m : Rm16) (s : State) : Host.Outcome State Fault Refusal :=
  finish do
    let d ← s.readRm16 m
    match divideUnsigned 16 (s.regs.dx ++ s.regs.ax).toNat d.toNat with
    | none => s.divideError
    | some (q, r) => return (s.setReg16 .ax (BitVec.ofNat 16 q)).setReg16 .dx (BitVec.ofNat 16 r)

/-- IDIV r/m8 (F6 /7), R176. -/
def execIdivRm8 (m : Rm8) (s : State) : Host.Outcome State Fault Refusal :=
  finish do
    let d ← s.readRm8 m
    match divideSigned 8 s.regs.ax.toInt d.toInt with
    | none => s.divideError
    | some (q, r) => return s.setReg16 .ax (wordOf (BitVec.ofInt 8 q) (BitVec.ofInt 8 r))

/-- IDIV r/m16 (F7 /7), R176. -/
def execIdivRm16 (m : Rm16) (s : State) : Host.Outcome State Fault Refusal :=
  finish do
    let d ← s.readRm16 m
    match divideSigned 16 (s.regs.dx ++ s.regs.ax).toInt d.toInt with
    | none => s.divideError
    | some (q, r) => return (s.setReg16 .ax (BitVec.ofInt 16 q)).setReg16 .dx (BitVec.ofInt 16 r)

end Sys2Proof.Machine
end

