-- ==== Sys2Proof/Machine/Control.lean ====
section
/-! DEFINITION. Control transfer instructions (spec 45_control_transfer R242 to R279, R400 to R403). IP is already `next_IP`
(R17). -/

namespace Sys2Proof.Machine

/-- Jcc, JCXZ: the target if the condition holds, else `next_IP` (R259, R276). -/
def jumpIf (c : Bool) (d : Byte) (s : State) : Host.Outcome State Fault Refusal :=
  .next (if c then s.transfer (s.target8 d) else s)

/-- LOOP, LOOPE, LOOPNE: CX is decremented, no flag changed; the jump is taken if CX is not 0 and the condition holds (R277 to
R279). -/
def loopIf (c : Bool) (d : Byte) (s : State) : Host.Outcome State Fault Refusal :=
  let s := s.setReg16 .cx (s.regs.cx - 1)
  .next (if s.regs.cx != 0 && c then s.transfer (s.target8 d) else s)

/-- Near call: `next_IP` is pushed (R243, R251, R252). -/
def callNear (t : Word) (s : State) : Host.Outcome State Fault Refusal :=
  finish do
    let s ← s.push16 s.ip
    return s.transfer t

/-- Far call: CS, then `next_IP`, are pushed (R243, R253, R254). -/
def callFarTo (g o : Word) (s : State) : Host.Outcome State Fault Refusal :=
  finish do
    let s ← s.push16 s.segs.cs
    let s ← s.push16 s.ip
    return (s.transfer o).setSreg .cs g

/-- Near return; `i` bytes are then released (R255, R256). -/
def retNear (i : Word) (s : State) : Host.Outcome State Fault Refusal :=
  finish do
    let p ← s.pop16
    return (p.2.transfer p.1).setReg16 .sp (p.2.regs.sp + i)

/-- Far return; `i` bytes are then released (R257, R258). -/
def retFar (i : Word) (s : State) : Host.Outcome State Fault Refusal :=
  finish do
    let o ← s.pop16
    let g ← o.2.pop16
    return ((g.2.transfer o.1).setSreg .cs g.1).setReg16 .sp (g.2.regs.sp + i)

/-! ### The meanings -/

/-- JO rel8 (70 cb), R260. -/
def execJo (d : Byte) (s : State) : Host.Outcome State Fault Refusal := jumpIf s.flags.OF d s

/-- JNO rel8 (71 cb), R261. -/
def execJno (d : Byte) (s : State) : Host.Outcome State Fault Refusal := jumpIf (!s.flags.OF) d s

/-- JB = JNAE = JC rel8 (72 cb), R262. -/
def execJb (d : Byte) (s : State) : Host.Outcome State Fault Refusal := jumpIf s.flags.CF d s

/-- JNB = JAE = JNC rel8 (73 cb), R263. -/
def execJnb (d : Byte) (s : State) : Host.Outcome State Fault Refusal := jumpIf (!s.flags.CF) d s

/-- JE = JZ rel8 (74 cb), R264. -/
def execJe (d : Byte) (s : State) : Host.Outcome State Fault Refusal := jumpIf s.flags.ZF d s

/-- JNE = JNZ rel8 (75 cb), R265. -/
def execJne (d : Byte) (s : State) : Host.Outcome State Fault Refusal := jumpIf (!s.flags.ZF) d s

/-- JBE = JNA rel8 (76 cb), R266. -/
def execJbe (d : Byte) (s : State) : Host.Outcome State Fault Refusal := jumpIf (s.flags.CF || s.flags.ZF) d s

/-- JNBE = JA rel8 (77 cb), R267. -/
def execJnbe (d : Byte) (s : State) : Host.Outcome State Fault Refusal := jumpIf (!s.flags.CF && !s.flags.ZF) d s

/-- JS rel8 (78 cb), R268. -/
def execJs (d : Byte) (s : State) : Host.Outcome State Fault Refusal := jumpIf s.flags.SF d s

/-- JNS rel8 (79 cb), R269. -/
def execJns (d : Byte) (s : State) : Host.Outcome State Fault Refusal := jumpIf (!s.flags.SF) d s

/-- JP = JPE rel8 (7A cb), R270. -/
def execJp (d : Byte) (s : State) : Host.Outcome State Fault Refusal := jumpIf s.flags.PF d s

/-- JNP = JPO rel8 (7B cb), R271. -/
def execJnp (d : Byte) (s : State) : Host.Outcome State Fault Refusal := jumpIf (!s.flags.PF) d s

/-- JL = JNGE rel8 (7C cb), R272. -/
def execJl (d : Byte) (s : State) : Host.Outcome State Fault Refusal := jumpIf (s.flags.SF != s.flags.OF) d s

/-- JNL = JGE rel8 (7D cb), R273. -/
def execJnl (d : Byte) (s : State) : Host.Outcome State Fault Refusal := jumpIf (s.flags.SF == s.flags.OF) d s

/-- JLE = JNG rel8 (7E cb), R274. -/
def execJle (d : Byte) (s : State) : Host.Outcome State Fault Refusal :=
  jumpIf (s.flags.ZF || s.flags.SF != s.flags.OF) d s

/-- JNLE = JG rel8 (7F cb), R275. -/
def execJnle (d : Byte) (s : State) : Host.Outcome State Fault Refusal :=
  jumpIf (!s.flags.ZF && s.flags.SF == s.flags.OF) d s

/-- RET imm16, near (C2 iw), R256. -/
def execRetNearImm16 (i : Word) (s : State) : Host.Outcome State Fault Refusal := retNear i s

/-- RET near (C3), R255. -/
def execRetNear (s : State) : Host.Outcome State Fault Refusal := retNear 0 s

/-- RET imm16, far (CA iw), R258. -/
def execRetFarImm16 (i : Word) (s : State) : Host.Outcome State Fault Refusal := retFar i s

/-- RET far (CB), R257. -/
def execRetFar (s : State) : Host.Outcome State Fault Refusal := retFar 0 s

/-- INT 3 (CC), R401. -/
def execInt3 (s : State) : Host.Outcome State Fault Refusal := finish (s.interrupt 3 s.segs.cs s.ip)

/-- INT imm8 (CD ib), R400. -/
def execInt (n : Byte) (s : State) : Host.Outcome State Fault Refusal := finish (s.interrupt n s.segs.cs s.ip)

/-- INTO (CE), R402. -/
def execInto (s : State) : Host.Outcome State Fault Refusal :=
  if s.flags.OF then finish (s.interrupt 4 s.segs.cs s.ip) else .next s

/-- IRET (CF), R403. -/
def execIret (s : State) : Host.Outcome State Fault Refusal := finish s.interruptReturn

/-- LOOPNE = LOOPNZ rel8 (E0 cb), R279. -/
def execLoopne (d : Byte) (s : State) : Host.Outcome State Fault Refusal := loopIf (!s.flags.ZF) d s

/-- LOOPE = LOOPZ rel8 (E1 cb), R278. -/
def execLoope (d : Byte) (s : State) : Host.Outcome State Fault Refusal := loopIf s.flags.ZF d s

/-- LOOP rel8 (E2 cb), R277. -/
def execLoop (d : Byte) (s : State) : Host.Outcome State Fault Refusal := loopIf true d s

/-- JCXZ rel8 (E3 cb), R276. -/
def execJcxz (d : Byte) (s : State) : Host.Outcome State Fault Refusal := jumpIf (s.regs.cx == 0) d s

/-- CALL rel16 (E8 cw), R251. -/
def execCallRel16 (d : Word) (s : State) : Host.Outcome State Fault Refusal := callNear (s.target16 d) s

/-- CALL ptr16:16 (9A cd), offset then selector, R253. -/
def execCallFar (o : Word) (g : Word) (s : State) : Host.Outcome State Fault Refusal := callFarTo g o s

/-- CALL r/m16 (FF /2), R252: the target is read before anything is pushed (R243). -/
def execCallRm16 (m : Rm16) (s : State) : Host.Outcome State Fault Refusal :=
  match s.readRm16 m with
  | .ok t => callNear t s
  | .error f => .fault f

/-- CALL m16:16 (FF /3), R254: the target is read before anything is pushed (R243). -/
def execCallM (m : MemOp) (s : State) : Host.Outcome State Fault Refusal :=
  match s.readFar m with
  | .ok p => callFarTo p.2 p.1 s
  | .error f => .fault f

/-- JMP rel8 (EB cb), R246. -/
def execJmpRel8 (d : Byte) (s : State) : Host.Outcome State Fault Refusal := .next (s.transfer (s.target8 d))

/-- JMP rel16 (E9 cw), R247. -/
def execJmpRel16 (d : Word) (s : State) : Host.Outcome State Fault Refusal := .next (s.transfer (s.target16 d))

/-- JMP ptr16:16 (EA cd), offset then selector, R249. -/
def execJmpFar (o : Word) (g : Word) (s : State) : Host.Outcome State Fault Refusal := .next ((s.transfer o).setSreg .cs g)

/-- JMP r/m16 (FF /4), R248. -/
def execJmpRm16 (m : Rm16) (s : State) : Host.Outcome State Fault Refusal := finish (s.transfer <$> s.readRm16 m)

/-- JMP m16:16 (FF /5), R250. -/
def execJmpM (m : MemOp) (s : State) : Host.Outcome State Fault Refusal :=
  finish do
    let p ← s.readFar m
    return (s.transfer p.1).setSreg .cs p.2

end Sys2Proof.Machine
end

