-- ==== Sys2Proof/Machine/DataTransfer.lean ====
section
/-! DEFINITION. Data transfer instructions (spec 40_data_transfer R120 to R146). IP is already `next_IP` (R17). -/

namespace Sys2Proof.Machine

/-! ### Shared shapes -/

/-- The word PUSH r/m16 stores: PUSH SP stores the new value of SP, the decremented one (R126, R127). -/
def State.pushOperand (s : State) (m : Rm16) : Res Word :=
  if m = .reg .sp then .ok (s.regs.sp - 2) else s.readRm16 m

/-- PUSH of a register or memory word: the operand is read first (R126, R127). -/
def pushRm16 (m : Rm16) (s : State) : Host.Outcome State Fault Refusal :=
  finish do
    let v ← s.pushOperand m
    s.push16 v

/-- POP into a segment register (R131). -/
def popSreg (r : SReg) (s : State) : Host.Outcome State Fault Refusal :=
  finish do
    let p ← s.pop16
    return p.2.setSreg r p.1

/-- POP into a register or memory word; POP SP loads the word that was read (R129, R130). -/
def popRm16 (d : Rm16) (s : State) : Host.Outcome State Fault Refusal :=
  finish do
    let p ← s.pop16
    p.2.writeRm16 d p.1

/-- XCHG AX, r16 (R125). -/
def xchgAx (r : Reg16) (s : State) : Host.Outcome State Fault Refusal :=
  .next ((s.setReg16 .ax (s.reg16 r)).setReg16 r s.regs.ax)

/-- LDS, LES: both words are read before either register is written (R137, R138). -/
def loadFar (sr : SReg) (r : Reg16) (m : MemOp) (s : State) : Host.Outcome State Fault Refusal :=
  finish do
    let p ← s.readFar m
    return (s.setReg16 r p.1).setSreg sr p.2

/-- IN AL (R142, R143). -/
def inAl (port : Word) (s : State) : Host.Outcome State Fault Refusal :=
  let r := s.ioRead8 port
  .next (r.2.setReg8 .al r.1)

/-- IN AX (R142, R143). -/
def inAx (port : Word) (s : State) : Host.Outcome State Fault Refusal :=
  let r := s.ioRead16 port
  .next (r.2.setReg16 .ax r.1)

/-! ### The meanings -/

/-- PUSH ES (06), R128. -/
def execPushEs (s : State) : Host.Outcome State Fault Refusal := finish (s.push16 s.segs.es)

/-- PUSH CS (0E), R128. -/
def execPushCs (s : State) : Host.Outcome State Fault Refusal := finish (s.push16 s.segs.cs)

/-- PUSH SS (16), R128. -/
def execPushSs (s : State) : Host.Outcome State Fault Refusal := finish (s.push16 s.segs.ss)

/-- PUSH DS (1E), R128. -/
def execPushDs (s : State) : Host.Outcome State Fault Refusal := finish (s.push16 s.segs.ds)

/-- PUSH r16 (50+rw), R127. -/
def execPushR16 (r : Reg16) (s : State) : Host.Outcome State Fault Refusal := pushRm16 (.reg r) s

/-- PUSH r/m16 (FF /6), R126. -/
def execPushRm16 (m : Rm16) (s : State) : Host.Outcome State Fault Refusal := pushRm16 m s

/-- POP ES (07), R131. -/
def execPopEs (s : State) : Host.Outcome State Fault Refusal := popSreg .es s

/-- POP SS (17), R131. -/
def execPopSs (s : State) : Host.Outcome State Fault Refusal := popSreg .ss s

/-- POP DS (1F), R131. -/
def execPopDs (s : State) : Host.Outcome State Fault Refusal := popSreg .ds s

/-- POP r16 (58+rw), R130. -/
def execPopR16 (r : Reg16) (s : State) : Host.Outcome State Fault Refusal := popRm16 (.reg r) s

/-- POP r/m16 (8F /0), R129. -/
def execPopRm16 (d : Rm16) (s : State) : Host.Outcome State Fault Refusal := popRm16 d s

/-- XCHG r/m8, r8 (86 /r), R125. -/
def execXchgRm8R8 (m : Rm8) (r : Reg8) (s : State) : Host.Outcome State Fault Refusal :=
  finish do
    let v ← s.readRm8 m
    let t ← s.writeRm8 m (s.reg8 r)
    return t.setReg8 r v

/-- XCHG r/m16, r16 (87 /r), R125. -/
def execXchgRm16R16 (m : Rm16) (r : Reg16) (s : State) : Host.Outcome State Fault Refusal :=
  finish do
    let v ← s.readRm16 m
    let t ← s.writeRm16 m (s.reg16 r)
    return t.setReg16 r v

/-- XCHG AX, CX (91), R125. -/
def execXchgAxCx (s : State) : Host.Outcome State Fault Refusal := xchgAx .cx s

/-- XCHG AX, DX (92), R125. -/
def execXchgAxDx (s : State) : Host.Outcome State Fault Refusal := xchgAx .dx s

/-- XCHG AX, BX (93), R125. -/
def execXchgAxBx (s : State) : Host.Outcome State Fault Refusal := xchgAx .bx s

/-- XCHG AX, SP (94), R125. -/
def execXchgAxSp (s : State) : Host.Outcome State Fault Refusal := xchgAx .sp s

/-- XCHG AX, BP (95), R125. -/
def execXchgAxBp (s : State) : Host.Outcome State Fault Refusal := xchgAx .bp s

/-- XCHG AX, SI (96), R125. -/
def execXchgAxSi (s : State) : Host.Outcome State Fault Refusal := xchgAx .si s

/-- XCHG AX, DI (97), R125. -/
def execXchgAxDi (s : State) : Host.Outcome State Fault Refusal := xchgAx .di s

/-- MOV r/m8, r8 (88 /r), R120. -/
def execMovRm8R8 (d : Rm8) (r : Reg8) (s : State) : Host.Outcome State Fault Refusal := finish (s.writeRm8 d (s.reg8 r))

/-- MOV r/m16, r16 (89 /r), R120. -/
def execMovRm16R16 (d : Rm16) (r : Reg16) (s : State) : Host.Outcome State Fault Refusal :=
  finish (s.writeRm16 d (s.reg16 r))

/-- MOV r8, r/m8 (8A /r), R120. -/
def execMovR8Rm8 (r : Reg8) (m : Rm8) (s : State) : Host.Outcome State Fault Refusal :=
  finish (s.setReg8 r <$> s.readRm8 m)

/-- MOV r16, r/m16 (8B /r), R120. -/
def execMovR16Rm16 (r : Reg16) (m : Rm16) (s : State) : Host.Outcome State Fault Refusal :=
  finish (s.setReg16 r <$> s.readRm16 m)

/-- MOV r/m16, Sreg (8C /r), R121. -/
def execMovRm16Sreg (d : Rm16) (r : SReg) (s : State) : Host.Outcome State Fault Refusal :=
  finish (s.writeRm16 d (s.sreg r))

/-- MOV ES, r/m16 (8E /0), R121. -/
def execMovEsRm16 (m : Rm16) (s : State) : Host.Outcome State Fault Refusal := finish (s.setSreg .es <$> s.readRm16 m)

/-- MOV SS, r/m16 (8E /2), R121. -/
def execMovSsRm16 (m : Rm16) (s : State) : Host.Outcome State Fault Refusal := finish (s.setSreg .ss <$> s.readRm16 m)

/-- MOV DS, r/m16 (8E /3), R121. -/
def execMovDsRm16 (m : Rm16) (s : State) : Host.Outcome State Fault Refusal := finish (s.setSreg .ds <$> s.readRm16 m)

/-- MOV AL, m8 (A0 ow), R122. -/
def execMovAlM8 (o : Word) (s : State) : Host.Outcome State Fault Refusal :=
  finish (s.setReg8 .al <$> s.memRead8 s.dataSeg o)

/-- MOV AX, m16 (A1 ow), R122. -/
def execMovAxM16 (o : Word) (s : State) : Host.Outcome State Fault Refusal :=
  finish (s.setReg16 .ax <$> s.memRead16 s.dataSeg o)

/-- MOV m8, AL (A2 ow), R122. -/
def execMovM8Al (o : Word) (s : State) : Host.Outcome State Fault Refusal :=
  finish (s.memWrite8 s.dataSeg o (s.reg8 .al))

/-- MOV m16, AX (A3 ow), R122. -/
def execMovM16Ax (o : Word) (s : State) : Host.Outcome State Fault Refusal :=
  finish (s.memWrite16 s.dataSeg o s.regs.ax)

/-- MOV r8, imm8 (B0+rb ib), R123. -/
def execMovR8Imm8 (r : Reg8) (i : Byte) (s : State) : Host.Outcome State Fault Refusal := .next (s.setReg8 r i)

/-- MOV r16, imm16 (B8+rw iw), R123. -/
def execMovR16Imm16 (r : Reg16) (i : Word) (s : State) : Host.Outcome State Fault Refusal := .next (s.setReg16 r i)

/-- MOV r/m8, imm8 (C6 /0 ib), R124. -/
def execMovRm8Imm8 (d : Rm8) (i : Byte) (s : State) : Host.Outcome State Fault Refusal := finish (s.writeRm8 d i)

/-- MOV r/m16, imm16 (C7 /0 iw), R124. -/
def execMovRm16Imm16 (d : Rm16) (i : Word) (s : State) : Host.Outcome State Fault Refusal := finish (s.writeRm16 d i)

/-- LEA r16, m (8D /r), R136. -/
def execLea (r : Reg16) (m : MemOp) (s : State) : Host.Outcome State Fault Refusal := .next (s.setReg16 r (s.ea m))

/-- LES r16, m16:16 (C4 /r), R138. -/
def execLes (r : Reg16) (m : MemOp) (s : State) : Host.Outcome State Fault Refusal := loadFar .es r m s

/-- LDS r16, m16:16 (C5 /r), R137. -/
def execLds (r : Reg16) (m : MemOp) (s : State) : Host.Outcome State Fault Refusal := loadFar .ds r m s

/-- CBW (98), R140. -/
def execCbw (s : State) : Host.Outcome State Fault Refusal := .next (s.setReg16 .ax (sext16 (s.reg8 .al)))

/-- CWD (99), R146. -/
def execCwd (s : State) : Host.Outcome State Fault Refusal :=
  .next (s.setReg16 .dx (if s.regs.ax.msb then 0xFFFF else 0))

/-- PUSHF (9C), R132. -/
def execPushf (s : State) : Host.Outcome State Fault Refusal := finish (s.push16 s.flags.toWord)

/-- POPF (9D), R133. -/
def execPopf (s : State) : Host.Outcome State Fault Refusal :=
  finish do
    let p ← s.pop16
    return p.2.setFlags (Flags.ofWord p.1)

/-- SAHF (9E), R135. -/
def execSahf (s : State) : Host.Outcome State Fault Refusal :=
  let ah := s.reg8 .ah
  .next (s.setFlags
    { s.flags with
      SF := ah.getLsbD 7, ZF := ah.getLsbD 6, AF := ah.getLsbD 4, PF := ah.getLsbD 2, CF := ah.getLsbD 0 })

/-- LAHF (9F), R134. -/
def execLahf (s : State) : Host.Outcome State Fault Refusal := .next (s.setReg8 .ah (loByte s.flags.toWord))

/-- XLATB (D7), R141. -/
def execXlatb (s : State) : Host.Outcome State Fault Refusal :=
  finish (s.setReg8 .al <$> s.memRead8 s.dataSeg (s.regs.bx + zext16 (s.reg8 .al)))

/-- IN AL, imm8 (E4 ib), R142. -/
def execInAlImm8 (p : Byte) (s : State) : Host.Outcome State Fault Refusal := inAl (zext16 p) s

/-- IN AX, imm8 (E5 ib), R142. -/
def execInAxImm8 (p : Byte) (s : State) : Host.Outcome State Fault Refusal := inAx (zext16 p) s

/-- OUT: AL to port imm8 (E6 ib), R144. -/
def execOutImm8Al (p : Byte) (s : State) : Host.Outcome State Fault Refusal :=
  .next (s.ioWrite8 (zext16 p) (s.reg8 .al))

/-- OUT: AX to port imm8 (E7 ib), R144. -/
def execOutImm8Ax (p : Byte) (s : State) : Host.Outcome State Fault Refusal := .next (s.ioWrite16 (zext16 p) s.regs.ax)

/-- IN AL, DX (EC), R143. -/
def execInAlDx (s : State) : Host.Outcome State Fault Refusal := inAl s.regs.dx s

/-- IN AX, DX (ED), R143. -/
def execInAxDx (s : State) : Host.Outcome State Fault Refusal := inAx s.regs.dx s

/-- OUT: AL to port DX (EE), R145. -/
def execOutDxAl (s : State) : Host.Outcome State Fault Refusal := .next (s.ioWrite8 s.regs.dx (s.reg8 .al))

/-- OUT: AX to port DX (EF), R145. -/
def execOutDxAx (s : State) : Host.Outcome State Fault Refusal := .next (s.ioWrite16 s.regs.dx s.regs.ax)

end Sys2Proof.Machine
end

