-- ==== Sys2Proof/Machine/Logic.lean ====
section
/-! DEFINITION. Logical instructions (spec 42_logic_bcd R190 to R195). IP is already `next_IP` (R17). -/

namespace Sys2Proof.Machine

/-! ### Operations -/

/-- The result of a logical operation with `LogicFlags_N`; AF is a free value (R190, R27, D21). -/
def logicOp {n : Nat} (s : State) (r : BitVec n) : BitVec n × State :=
  (r, (s.setFlags (logicFlags s.flags r (s.freeFlag 0))).drew 1)

/-- AND, and TEST, which drops the result (R191, R195). -/
def andOp {n : Nat} (s : State) (a b : BitVec n) : BitVec n × State := logicOp s (a &&& b)

/-- OR (R192). -/
def orOp {n : Nat} (s : State) (a b : BitVec n) : BitVec n × State := logicOp s (a ||| b)

/-- XOR (R193). -/
def xorOp {n : Nat} (s : State) (a b : BitVec n) : BitVec n × State := logicOp s (a ^^^ b)

/-- NOT: no flag changes (R194). -/
def notOp {n : Nat} (s : State) (a : BitVec n) : BitVec n × State := (~~~a, s)

/-! ### The meanings -/

/-- OR r/m8, r8 (08 /r), R192. -/
def execOrRm8R8 (d : Rm8) (r : Reg8) (s : State) : Host.Outcome State Fault Refusal := updRm8 orOp d (s.reg8 r) s

/-- OR r/m16, r16 (09 /r), R192. -/
def execOrRm16R16 (d : Rm16) (r : Reg16) (s : State) : Host.Outcome State Fault Refusal := updRm16 orOp d (s.reg16 r) s

/-- OR r8, r/m8 (0A /r), R192. -/
def execOrR8Rm8 (r : Reg8) (m : Rm8) (s : State) : Host.Outcome State Fault Refusal := updR8 orOp r m s

/-- OR r16, r/m16 (0B /r), R192. -/
def execOrR16Rm16 (r : Reg16) (m : Rm16) (s : State) : Host.Outcome State Fault Refusal := updR16 orOp r m s

/-- OR AL, imm8 (0C ib), R192. -/
def execOrAlImm8 (i : Byte) (s : State) : Host.Outcome State Fault Refusal := updRm8 orOp (.reg .al) i s

/-- OR AX, imm16 (0D iw), R192. -/
def execOrAxImm16 (i : Word) (s : State) : Host.Outcome State Fault Refusal := updRm16 orOp (.reg .ax) i s

/-- OR r/m8, imm8 (80 /1 ib), R192. -/
def execOrRm8Imm8 (d : Rm8) (i : Byte) (s : State) : Host.Outcome State Fault Refusal := updRm8 orOp d i s

/-- OR r/m16, imm16 (81 /1 iw), R192. -/
def execOrRm16Imm16 (d : Rm16) (i : Word) (s : State) : Host.Outcome State Fault Refusal := updRm16 orOp d i s

/-- AND r/m8, r8 (20 /r), R191. -/
def execAndRm8R8 (d : Rm8) (r : Reg8) (s : State) : Host.Outcome State Fault Refusal := updRm8 andOp d (s.reg8 r) s

/-- AND r/m16, r16 (21 /r), R191. -/
def execAndRm16R16 (d : Rm16) (r : Reg16) (s : State) : Host.Outcome State Fault Refusal :=
  updRm16 andOp d (s.reg16 r) s

/-- AND r8, r/m8 (22 /r), R191. -/
def execAndR8Rm8 (r : Reg8) (m : Rm8) (s : State) : Host.Outcome State Fault Refusal := updR8 andOp r m s

/-- AND r16, r/m16 (23 /r), R191. -/
def execAndR16Rm16 (r : Reg16) (m : Rm16) (s : State) : Host.Outcome State Fault Refusal := updR16 andOp r m s

/-- AND AL, imm8 (24 ib), R191. -/
def execAndAlImm8 (i : Byte) (s : State) : Host.Outcome State Fault Refusal := updRm8 andOp (.reg .al) i s

/-- AND AX, imm16 (25 iw), R191. -/
def execAndAxImm16 (i : Word) (s : State) : Host.Outcome State Fault Refusal := updRm16 andOp (.reg .ax) i s

/-- AND r/m8, imm8 (80 /4 ib), R191. -/
def execAndRm8Imm8 (d : Rm8) (i : Byte) (s : State) : Host.Outcome State Fault Refusal := updRm8 andOp d i s

/-- AND r/m16, imm16 (81 /4 iw), R191. -/
def execAndRm16Imm16 (d : Rm16) (i : Word) (s : State) : Host.Outcome State Fault Refusal := updRm16 andOp d i s

/-- XOR r/m8, r8 (30 /r), R193. -/
def execXorRm8R8 (d : Rm8) (r : Reg8) (s : State) : Host.Outcome State Fault Refusal := updRm8 xorOp d (s.reg8 r) s

/-- XOR r/m16, r16 (31 /r), R193. -/
def execXorRm16R16 (d : Rm16) (r : Reg16) (s : State) : Host.Outcome State Fault Refusal :=
  updRm16 xorOp d (s.reg16 r) s

/-- XOR r8, r/m8 (32 /r), R193. -/
def execXorR8Rm8 (r : Reg8) (m : Rm8) (s : State) : Host.Outcome State Fault Refusal := updR8 xorOp r m s

/-- XOR r16, r/m16 (33 /r), R193. -/
def execXorR16Rm16 (r : Reg16) (m : Rm16) (s : State) : Host.Outcome State Fault Refusal := updR16 xorOp r m s

/-- XOR AL, imm8 (34 ib), R193. -/
def execXorAlImm8 (i : Byte) (s : State) : Host.Outcome State Fault Refusal := updRm8 xorOp (.reg .al) i s

/-- XOR AX, imm16 (35 iw), R193. -/
def execXorAxImm16 (i : Word) (s : State) : Host.Outcome State Fault Refusal := updRm16 xorOp (.reg .ax) i s

/-- XOR r/m8, imm8 (80 /6 ib), R193. -/
def execXorRm8Imm8 (d : Rm8) (i : Byte) (s : State) : Host.Outcome State Fault Refusal := updRm8 xorOp d i s

/-- XOR r/m16, imm16 (81 /6 iw), R193. -/
def execXorRm16Imm16 (d : Rm16) (i : Word) (s : State) : Host.Outcome State Fault Refusal := updRm16 xorOp d i s

/-- TEST r/m8, r8 (84 /r), R195. -/
def execTestRm8R8 (a : Rm8) (r : Reg8) (s : State) : Host.Outcome State Fault Refusal := cmpRm8 andOp a (s.reg8 r) s

/-- TEST r/m16, r16 (85 /r), R195. -/
def execTestRm16R16 (a : Rm16) (r : Reg16) (s : State) : Host.Outcome State Fault Refusal :=
  cmpRm16 andOp a (s.reg16 r) s

/-- TEST AL, imm8 (A8 ib), R195. -/
def execTestAlImm8 (i : Byte) (s : State) : Host.Outcome State Fault Refusal := cmpRm8 andOp (.reg .al) i s

/-- TEST AX, imm16 (A9 iw), R195. -/
def execTestAxImm16 (i : Word) (s : State) : Host.Outcome State Fault Refusal := cmpRm16 andOp (.reg .ax) i s

/-- TEST r/m8, imm8 (F6 /0 ib), R195. -/
def execTestRm8Imm8 (a : Rm8) (i : Byte) (s : State) : Host.Outcome State Fault Refusal := cmpRm8 andOp a i s

/-- TEST r/m16, imm16 (F7 /0 iw), R195. -/
def execTestRm16Imm16 (a : Rm16) (i : Word) (s : State) : Host.Outcome State Fault Refusal := cmpRm16 andOp a i s

/-- NOT r/m8 (F6 /2), R194. -/
def execNotRm8 (d : Rm8) (s : State) : Host.Outcome State Fault Refusal := unRm8 notOp d s

/-- NOT r/m16 (F7 /2), R194. -/
def execNotRm16 (d : Rm16) (s : State) : Host.Outcome State Fault Refusal := unRm16 notOp d s

end Sys2Proof.Machine
end

