-- ==== Sys2Proof/Machine/Prefix.lean ====
section
/-! DEFINITION. The prefixes: recording one, and which instructions each may precede (spec 30_encoding R85, R86, 47_prefixes
R300 to R308). -/

namespace Sys2Proof

/-- The seven prefix bytes (R85). -/
def Instr.isPrefix : Instr → Bool
  | .segEs | .segCs | .segSs | .segDs | .lock | .repne | .rep => true
  | .addRm8R8 _ _ | .addRm16R16 _ _ | .addR8Rm8 _ _ | .addR16Rm16 _ _ | .addAlImm8 _ | .addAxImm16 _
  | .addRm8Imm8 _ _ | .addRm16Imm16 _ _ | .addRm16Imm8 _ _ | .orRm8R8 _ _ | .orRm16R16 _ _ | .orR8Rm8 _ _
  | .orR16Rm16 _ _ | .orAlImm8 _ | .orAxImm16 _ | .orRm8Imm8 _ _ | .orRm16Imm16 _ _ | .adcRm8R8 _ _ | .adcRm16R16 _ _
  | .adcR8Rm8 _ _ | .adcR16Rm16 _ _ | .adcAlImm8 _ | .adcAxImm16 _ | .adcRm8Imm8 _ _ | .adcRm16Imm16 _ _
  | .adcRm16Imm8 _ _ | .sbbRm8R8 _ _ | .sbbRm16R16 _ _ | .sbbR8Rm8 _ _ | .sbbR16Rm16 _ _ | .sbbAlImm8 _
  | .sbbAxImm16 _ | .sbbRm8Imm8 _ _ | .sbbRm16Imm16 _ _ | .sbbRm16Imm8 _ _ | .andRm8R8 _ _ | .andRm16R16 _ _
  | .andR8Rm8 _ _ | .andR16Rm16 _ _ | .andAlImm8 _ | .andAxImm16 _ | .andRm8Imm8 _ _ | .andRm16Imm16 _ _
  | .subRm8R8 _ _ | .subRm16R16 _ _ | .subR8Rm8 _ _ | .subR16Rm16 _ _ | .subAlImm8 _ | .subAxImm16 _
  | .subRm8Imm8 _ _ | .subRm16Imm16 _ _ | .subRm16Imm8 _ _ | .xorRm8R8 _ _ | .xorRm16R16 _ _ | .xorR8Rm8 _ _
  | .xorR16Rm16 _ _ | .xorAlImm8 _ | .xorAxImm16 _ | .xorRm8Imm8 _ _ | .xorRm16Imm16 _ _ | .cmpRm8R8 _ _
  | .cmpRm16R16 _ _ | .cmpR8Rm8 _ _ | .cmpR16Rm16 _ _ | .cmpAlImm8 _ | .cmpAxImm16 _ | .cmpRm8Imm8 _ _
  | .cmpRm16Imm16 _ _ | .cmpRm16Imm8 _ _ | .pushEs | .pushCs | .pushSs | .pushDs | .pushR16 _ | .pushRm16 _ | .popEs
  | .popSs | .popDs | .popR16 _ | .popRm16 _ | .daa | .das | .aaa | .aas | .aam | .aad | .incR16 _ | .incRm8 _
  | .incRm16 _ | .decR16 _ | .decRm8 _ | .decRm16 _ | .jo _ | .jno _ | .jb _ | .jnb _ | .je _ | .jne _ | .jbe _
  | .jnbe _ | .js _ | .jns _ | .jp _ | .jnp _ | .jl _ | .jnl _ | .jle _ | .jnle _ | .testRm8R8 _ _ | .testRm16R16 _ _
  | .testAlImm8 _ | .testAxImm16 _ | .testRm8Imm8 _ _ | .testRm16Imm16 _ _ | .xchgRm8R8 _ _ | .xchgRm16R16 _ _
  | .xchgAxCx | .xchgAxDx | .xchgAxBx | .xchgAxSp | .xchgAxBp | .xchgAxSi | .xchgAxDi | .movRm8R8 _ _
  | .movRm16R16 _ _ | .movR8Rm8 _ _ | .movR16Rm16 _ _ | .movRm16Sreg _ _ | .movEsRm16 _ | .movSsRm16 _ | .movDsRm16 _
  | .movAlM8 _ | .movAxM16 _ | .movM8Al _ | .movM16Ax _ | .movR8Imm8 _ _ | .movR16Imm16 _ _ | .movRm8Imm8 _ _
  | .movRm16Imm16 _ _ | .lea _ _ | .les _ _ | .lds _ _ | .nop | .cbw | .cwd | .wait | .pushf | .popf | .sahf | .lahf
  | .movsb | .movsw | .cmpsb | .cmpsw | .stosb | .stosw | .lodsb | .lodsw | .scasb | .scasw | .retNearImm16 _
  | .retNear | .retFarImm16 _ | .retFar | .int3 | .int _ | .into | .iret | .rolRm8One _ | .rolRm16One _ | .rolRm8Cl _
  | .rolRm16Cl _ | .rorRm8One _ | .rorRm16One _ | .rorRm8Cl _ | .rorRm16Cl _ | .rclRm8One _ | .rclRm16One _
  | .rclRm8Cl _ | .rclRm16Cl _ | .rcrRm8One _ | .rcrRm16One _ | .rcrRm8Cl _ | .rcrRm16Cl _ | .salRm8One _
  | .salRm16One _ | .salRm8Cl _ | .salRm16Cl _ | .shrRm8One _ | .shrRm16One _ | .shrRm8Cl _ | .shrRm16Cl _
  | .sarRm8One _ | .sarRm16One _ | .sarRm8Cl _ | .sarRm16Cl _ | .xlatb | .esc _ _ | .loopne _ | .loope _ | .loop _
  | .jcxz _ | .inAlImm8 _ | .inAxImm8 _ | .outImm8Al _ | .outImm8Ax _ | .inAlDx | .inAxDx | .outDxAl | .outDxAx
  | .callRel16 _ | .callFar _ _ | .callRm16 _ | .callM _ | .jmpRel8 _ | .jmpRel16 _ | .jmpFar _ _ | .jmpRm16 _
  | .jmpM _ | .hlt | .cmc | .unused _ _ | .notRm8 _ | .notRm16 _ | .negRm8 _ | .negRm16 _ | .mulRm8 _ | .mulRm16 _
  | .imulRm8 _ | .imulRm16 _ | .divRm8 _ | .divRm16 _ | .idivRm8 _ | .idivRm16 _ | .clc | .stc | .cli | .sti | .cld
  | .std => false

/-- The instructions LOCK may precede: the twelve of R303 in every form, and opcode 90, which is XCHG AX, AX. -/
def Instr.lockable : Instr → Bool
  | .addRm8R8 _ _ | .addRm16R16 _ _ | .addR8Rm8 _ _ | .addR16Rm16 _ _ | .addAlImm8 _ | .addAxImm16 _
  | .addRm8Imm8 _ _ | .addRm16Imm16 _ _ | .addRm16Imm8 _ _ | .orRm8R8 _ _ | .orRm16R16 _ _ | .orR8Rm8 _ _
  | .orR16Rm16 _ _ | .orAlImm8 _ | .orAxImm16 _ | .orRm8Imm8 _ _ | .orRm16Imm16 _ _ | .adcRm8R8 _ _ | .adcRm16R16 _ _
  | .adcR8Rm8 _ _ | .adcR16Rm16 _ _ | .adcAlImm8 _ | .adcAxImm16 _ | .adcRm8Imm8 _ _ | .adcRm16Imm16 _ _
  | .adcRm16Imm8 _ _ | .sbbRm8R8 _ _ | .sbbRm16R16 _ _ | .sbbR8Rm8 _ _ | .sbbR16Rm16 _ _ | .sbbAlImm8 _
  | .sbbAxImm16 _ | .sbbRm8Imm8 _ _ | .sbbRm16Imm16 _ _ | .sbbRm16Imm8 _ _ | .andRm8R8 _ _ | .andRm16R16 _ _
  | .andR8Rm8 _ _ | .andR16Rm16 _ _ | .andAlImm8 _ | .andAxImm16 _ | .andRm8Imm8 _ _ | .andRm16Imm16 _ _
  | .subRm8R8 _ _ | .subRm16R16 _ _ | .subR8Rm8 _ _ | .subR16Rm16 _ _ | .subAlImm8 _ | .subAxImm16 _
  | .subRm8Imm8 _ _ | .subRm16Imm16 _ _ | .subRm16Imm8 _ _ | .xorRm8R8 _ _ | .xorRm16R16 _ _ | .xorR8Rm8 _ _
  | .xorR16Rm16 _ _ | .xorAlImm8 _ | .xorAxImm16 _ | .xorRm8Imm8 _ _ | .xorRm16Imm16 _ _ | .incR16 _ | .incRm8 _
  | .incRm16 _ | .decR16 _ | .decRm8 _ | .decRm16 _ | .xchgRm8R8 _ _ | .xchgRm16R16 _ _ | .xchgAxCx | .xchgAxDx
  | .xchgAxBx | .xchgAxSp | .xchgAxBp | .xchgAxSi | .xchgAxDi | .nop | .notRm8 _ | .notRm16 _ | .negRm8 _
  | .negRm16 _ => true
  | .cmpRm8R8 _ _ | .cmpRm16R16 _ _ | .cmpR8Rm8 _ _ | .cmpR16Rm16 _ _ | .cmpAlImm8 _ | .cmpAxImm16 _
  | .cmpRm8Imm8 _ _ | .cmpRm16Imm16 _ _ | .cmpRm16Imm8 _ _ | .pushEs | .pushCs | .pushSs | .pushDs | .pushR16 _
  | .pushRm16 _ | .popEs | .popSs | .popDs | .popR16 _ | .popRm16 _ | .segEs | .segCs | .segSs | .segDs | .lock
  | .repne | .rep | .daa | .das | .aaa | .aas | .aam | .aad | .jo _ | .jno _ | .jb _ | .jnb _ | .je _ | .jne _
  | .jbe _ | .jnbe _ | .js _ | .jns _ | .jp _ | .jnp _ | .jl _ | .jnl _ | .jle _ | .jnle _ | .testRm8R8 _ _
  | .testRm16R16 _ _ | .testAlImm8 _ | .testAxImm16 _ | .testRm8Imm8 _ _ | .testRm16Imm16 _ _ | .movRm8R8 _ _
  | .movRm16R16 _ _ | .movR8Rm8 _ _ | .movR16Rm16 _ _ | .movRm16Sreg _ _ | .movEsRm16 _ | .movSsRm16 _ | .movDsRm16 _
  | .movAlM8 _ | .movAxM16 _ | .movM8Al _ | .movM16Ax _ | .movR8Imm8 _ _ | .movR16Imm16 _ _ | .movRm8Imm8 _ _
  | .movRm16Imm16 _ _ | .lea _ _ | .les _ _ | .lds _ _ | .cbw | .cwd | .wait | .pushf | .popf | .sahf | .lahf
  | .movsb | .movsw | .cmpsb | .cmpsw | .stosb | .stosw | .lodsb | .lodsw | .scasb | .scasw | .retNearImm16 _
  | .retNear | .retFarImm16 _ | .retFar | .int3 | .int _ | .into | .iret | .rolRm8One _ | .rolRm16One _ | .rolRm8Cl _
  | .rolRm16Cl _ | .rorRm8One _ | .rorRm16One _ | .rorRm8Cl _ | .rorRm16Cl _ | .rclRm8One _ | .rclRm16One _
  | .rclRm8Cl _ | .rclRm16Cl _ | .rcrRm8One _ | .rcrRm16One _ | .rcrRm8Cl _ | .rcrRm16Cl _ | .salRm8One _
  | .salRm16One _ | .salRm8Cl _ | .salRm16Cl _ | .shrRm8One _ | .shrRm16One _ | .shrRm8Cl _ | .shrRm16Cl _
  | .sarRm8One _ | .sarRm16One _ | .sarRm8Cl _ | .sarRm16Cl _ | .xlatb | .esc _ _ | .loopne _ | .loope _ | .loop _
  | .jcxz _ | .inAlImm8 _ | .inAxImm8 _ | .outImm8Al _ | .outImm8Ax _ | .inAlDx | .inAxDx | .outDxAl | .outDxAx
  | .callRel16 _ | .callFar _ _ | .callRm16 _ | .callM _ | .jmpRel8 _ | .jmpRel16 _ | .jmpFar _ _ | .jmpRm16 _
  | .jmpM _ | .hlt | .cmc | .unused _ _ | .mulRm8 _ | .mulRm16 _ | .imulRm8 _ | .imulRm16 _ | .divRm8 _ | .divRm16 _
  | .idivRm8 _ | .idivRm16 _ | .clc | .stc | .cli | .sti | .cld | .std => false

/-- What a string instruction's repetition tests: nothing but CX (MOVS, LODS, STOS), or ZF too (CMPS, SCAS) (R304); `none`
for every other instruction. -/
def Instr.repTests : Instr → Option Bool
  | .movsb | .movsw | .stosb | .stosw | .lodsb | .lodsw => some false
  | .cmpsb | .cmpsw | .scasb | .scasw => some true
  | .addRm8R8 _ _ | .addRm16R16 _ _ | .addR8Rm8 _ _ | .addR16Rm16 _ _ | .addAlImm8 _ | .addAxImm16 _
  | .addRm8Imm8 _ _ | .addRm16Imm16 _ _ | .addRm16Imm8 _ _ | .orRm8R8 _ _ | .orRm16R16 _ _ | .orR8Rm8 _ _
  | .orR16Rm16 _ _ | .orAlImm8 _ | .orAxImm16 _ | .orRm8Imm8 _ _ | .orRm16Imm16 _ _ | .adcRm8R8 _ _ | .adcRm16R16 _ _
  | .adcR8Rm8 _ _ | .adcR16Rm16 _ _ | .adcAlImm8 _ | .adcAxImm16 _ | .adcRm8Imm8 _ _ | .adcRm16Imm16 _ _
  | .adcRm16Imm8 _ _ | .sbbRm8R8 _ _ | .sbbRm16R16 _ _ | .sbbR8Rm8 _ _ | .sbbR16Rm16 _ _ | .sbbAlImm8 _
  | .sbbAxImm16 _ | .sbbRm8Imm8 _ _ | .sbbRm16Imm16 _ _ | .sbbRm16Imm8 _ _ | .andRm8R8 _ _ | .andRm16R16 _ _
  | .andR8Rm8 _ _ | .andR16Rm16 _ _ | .andAlImm8 _ | .andAxImm16 _ | .andRm8Imm8 _ _ | .andRm16Imm16 _ _
  | .subRm8R8 _ _ | .subRm16R16 _ _ | .subR8Rm8 _ _ | .subR16Rm16 _ _ | .subAlImm8 _ | .subAxImm16 _
  | .subRm8Imm8 _ _ | .subRm16Imm16 _ _ | .subRm16Imm8 _ _ | .xorRm8R8 _ _ | .xorRm16R16 _ _ | .xorR8Rm8 _ _
  | .xorR16Rm16 _ _ | .xorAlImm8 _ | .xorAxImm16 _ | .xorRm8Imm8 _ _ | .xorRm16Imm16 _ _ | .cmpRm8R8 _ _
  | .cmpRm16R16 _ _ | .cmpR8Rm8 _ _ | .cmpR16Rm16 _ _ | .cmpAlImm8 _ | .cmpAxImm16 _ | .cmpRm8Imm8 _ _
  | .cmpRm16Imm16 _ _ | .cmpRm16Imm8 _ _ | .pushEs | .pushCs | .pushSs | .pushDs | .pushR16 _ | .pushRm16 _ | .popEs
  | .popSs | .popDs | .popR16 _ | .popRm16 _ | .segEs | .segCs | .segSs | .segDs | .lock | .repne | .rep | .daa
  | .das | .aaa | .aas | .aam | .aad | .incR16 _ | .incRm8 _ | .incRm16 _ | .decR16 _ | .decRm8 _ | .decRm16 _
  | .jo _ | .jno _ | .jb _ | .jnb _ | .je _ | .jne _ | .jbe _ | .jnbe _ | .js _ | .jns _ | .jp _ | .jnp _ | .jl _
  | .jnl _ | .jle _ | .jnle _ | .testRm8R8 _ _ | .testRm16R16 _ _ | .testAlImm8 _ | .testAxImm16 _ | .testRm8Imm8 _ _
  | .testRm16Imm16 _ _ | .xchgRm8R8 _ _ | .xchgRm16R16 _ _ | .xchgAxCx | .xchgAxDx | .xchgAxBx | .xchgAxSp
  | .xchgAxBp | .xchgAxSi | .xchgAxDi | .movRm8R8 _ _ | .movRm16R16 _ _ | .movR8Rm8 _ _ | .movR16Rm16 _ _
  | .movRm16Sreg _ _ | .movEsRm16 _ | .movSsRm16 _ | .movDsRm16 _ | .movAlM8 _ | .movAxM16 _ | .movM8Al _
  | .movM16Ax _ | .movR8Imm8 _ _ | .movR16Imm16 _ _ | .movRm8Imm8 _ _ | .movRm16Imm16 _ _ | .lea _ _ | .les _ _
  | .lds _ _ | .nop | .cbw | .cwd | .wait | .pushf | .popf | .sahf | .lahf | .retNearImm16 _ | .retNear
  | .retFarImm16 _ | .retFar | .int3 | .int _ | .into | .iret | .rolRm8One _ | .rolRm16One _ | .rolRm8Cl _
  | .rolRm16Cl _ | .rorRm8One _ | .rorRm16One _ | .rorRm8Cl _ | .rorRm16Cl _ | .rclRm8One _ | .rclRm16One _
  | .rclRm8Cl _ | .rclRm16Cl _ | .rcrRm8One _ | .rcrRm16One _ | .rcrRm8Cl _ | .rcrRm16Cl _ | .salRm8One _
  | .salRm16One _ | .salRm8Cl _ | .salRm16Cl _ | .shrRm8One _ | .shrRm16One _ | .shrRm8Cl _ | .shrRm16Cl _
  | .sarRm8One _ | .sarRm16One _ | .sarRm8Cl _ | .sarRm16Cl _ | .xlatb | .esc _ _ | .loopne _ | .loope _ | .loop _
  | .jcxz _ | .inAlImm8 _ | .inAxImm8 _ | .outImm8Al _ | .outImm8Ax _ | .inAlDx | .inAxDx | .outDxAl | .outDxAx
  | .callRel16 _ | .callFar _ _ | .callRm16 _ | .callM _ | .jmpRel8 _ | .jmpRel16 _ | .jmpFar _ _ | .jmpRm16 _
  | .jmpM _ | .hlt | .cmc | .unused _ _ | .notRm8 _ | .notRm16 _ | .negRm8 _ | .negRm16 _ | .mulRm8 _ | .mulRm16 _
  | .imulRm8 _ | .imulRm16 _ | .divRm8 _ | .divRm16 _ | .idivRm8 _ | .idivRm16 _ | .clc | .stc | .cli | .sti | .cld
  | .std => none

end Sys2Proof

namespace Sys2Proof.Machine

/-- Is the repeat prefix one of the fourteen pairs of R307 with this instruction? -/
def repAllowed (k : RepKind) (i : Instr) : Bool :=
  match k, i.repTests with
  | .rep, some _ => true
  | .repne, some zf => zf
  | _, none => false

/-- Why the collected prefixes may not precede the instruction, if so (R303, R307, D18). -/
def prefixRefusal (p : Prefixes) (i : Instr) : Option Refusal :=
  if p.lock && !i.lockable then some .lockNotAllowed
  else
    match p.rep with
    | none => none
    | some k => if repAllowed k i then none else some .repeatNotAllowed

/-- Record a segment override; a second one is refused (R86, U1). -/
def recordSeg (r : SReg) (s : State) : Host.Outcome State Fault Refusal :=
  if s.pfx.seg.isSome then .refused .prefixGroupRepeated else .next { s with pfx := { s.pfx with seg := some r } }

/-- Record LOCK, and put out LOCK# (R302); a second one is refused (R86, U1). -/
def recordLock (s : State) : Host.Outcome State Fault Refusal :=
  if s.pfx.lock then .refused .prefixGroupRepeated
  else .next ({ s with pfx := { s.pfx with lock := true } }.emit .lock)

/-- Record a repeat prefix; a second one is refused (R86, U1). -/
def recordRep (k : RepKind) (s : State) : Host.Outcome State Fault Refusal :=
  if s.pfx.rep.isSome then .refused .prefixGroupRepeated else .next { s with pfx := { s.pfx with rep := some k } }

/-- ES: prefix (26), R300. -/
def execSegEs (s : State) : Host.Outcome State Fault Refusal := recordSeg .es s

/-- CS: prefix (2E), R300. -/
def execSegCs (s : State) : Host.Outcome State Fault Refusal := recordSeg .cs s

/-- SS: prefix (36), R300. -/
def execSegSs (s : State) : Host.Outcome State Fault Refusal := recordSeg .ss s

/-- DS: prefix (3E), R300. -/
def execSegDs (s : State) : Host.Outcome State Fault Refusal := recordSeg .ds s

/-- LOCK prefix (F0), R302. -/
def execLock (s : State) : Host.Outcome State Fault Refusal := recordLock s

/-- REPNE / REPNZ prefix (F2), R305. -/
def execRepne (s : State) : Host.Outcome State Fault Refusal := recordRep .repne s

/-- REP / REPE / REPZ prefix (F3), R305. -/
def execRep (s : State) : Host.Outcome State Fault Refusal := recordRep .rep s

end Sys2Proof.Machine
end

