-- ==== Sys2Proof/Machine/Processor.lean ====
section
/-! DEFINITION. Processor control instructions (spec 46_processor_control R280 to R290), and the unused encodings (30_encoding
R103). IP is already `next_IP` (R17). -/

namespace Sys2Proof.Machine

/-- NOP (90), R287. -/
def execNop (s : State) : Host.Outcome State Fault Refusal := .next s

/-- WAIT (9B), R289: goes on when the coprocessor is ready; else the processor stays at this instruction, which the next step
tests again, and this step's boundary takes no interrupt (D22). -/
def execWait (s : State) : Host.Outcome State Fault Refusal :=
  if (s.inputs.headD Inputs.idle).ready then .next s
  else .next { s with ip := s.instrStart, pause := .waiting s.ip }

/-- ESC (D8 to DF /r), R290: the coprocessor's operation and the operand's address are put out; nothing else changes (D23). -/
def execEsc (op6 : BitVec 6) (m : Rm16) (s : State) : Host.Outcome State Fault Refusal :=
  .next (s.emit (.coprocessor op6
    (match m with
    | .reg _ => none
    | .mem o => some (phys (s.segOf o) (s.ea o)))))

/-- HLT (F4), R288. -/
def execHlt (s : State) : Host.Outcome State Fault Refusal := .next { s with halted := true }

/-- CMC (F5), R282. -/
def execCmc (s : State) : Host.Outcome State Fault Refusal := .next (s.setFlags { s.flags with CF := !s.flags.CF })

/-- the encodings R103 refuses: first opcode byte and the byte that follows it. -/
def execUnused (op : Byte) (next : Byte) (_s : State) : Host.Outcome State Fault Refusal :=
  .refused (.unusedEncoding op next)

/-- CLC (F8), R280. -/
def execClc (s : State) : Host.Outcome State Fault Refusal := .next (s.setFlags { s.flags with CF := false })

/-- STC (F9), R281. -/
def execStc (s : State) : Host.Outcome State Fault Refusal := .next (s.setFlags { s.flags with CF := true })

/-- CLI (FA), R285. -/
def execCli (s : State) : Host.Outcome State Fault Refusal := .next (s.setFlags { s.flags with IF := false })

/-- STI (FB), R286. -/
def execSti (s : State) : Host.Outcome State Fault Refusal := .next (s.setFlags { s.flags with IF := true })

/-- CLD (FC), R283. -/
def execCld (s : State) : Host.Outcome State Fault Refusal := .next (s.setFlags { s.flags with DF := false })

/-- STD (FD), R284. -/
def execStd (s : State) : Host.Outcome State Fault Refusal := .next (s.setFlags { s.flags with DF := true })

end Sys2Proof.Machine
end

