-- ==== Sys2Proof/Machine/Shifts.lean ====
section
/-! DEFINITION. Shift and rotate instructions (spec 43_shifts R210 to R220). IP is already `next_IP` (R17). -/

namespace Sys2Proof.Machine

/-! ### The one-bit steps: operand and CF before, operand and CF after -/

/-- ROL (R211). -/
def rolStep {n : Nat} (p : BitVec n × Bool) : BitVec n × Bool :=
  ((p.1 <<< 1) ||| BitVec.ofNat n p.1.msb.toNat, p.1.msb)

/-- ROR (R212). -/
def rorStep {n : Nat} (p : BitVec n × Bool) : BitVec n × Bool :=
  ((p.1 >>> 1) ||| (BitVec.ofNat n (p.1.getLsbD 0).toNat <<< (n - 1)), p.1.getLsbD 0)

/-- RCL (R213). -/
def rclStep {n : Nat} (p : BitVec n × Bool) : BitVec n × Bool :=
  ((p.1 <<< 1) ||| BitVec.ofNat n p.2.toNat, p.1.msb)

/-- RCR (R214). -/
def rcrStep {n : Nat} (p : BitVec n × Bool) : BitVec n × Bool :=
  ((p.1 >>> 1) ||| (BitVec.ofNat n p.2.toNat <<< (n - 1)), p.1.getLsbD 0)

/-- SAL = SHL (R215). -/
def salStep {n : Nat} (p : BitVec n × Bool) : BitVec n × Bool := (p.1 <<< 1, p.1.msb)

/-- SHR (R216). -/
def shrStep {n : Nat} (p : BitVec n × Bool) : BitVec n × Bool := (p.1 >>> 1, p.1.getLsbD 0)

/-- SAR (R217). -/
def sarStep {n : Nat} (p : BitVec n × Bool) : BitVec n × Bool :=
  ((p.1 >>> 1) ||| (p.1 &&& (BitVec.ofNat n 1 <<< (n - 1))), p.1.getLsbD 0)

/-- `count` repetitions of a one-bit step, the count unmasked (R218, R219). -/
def shiftBy {n : Nat} (step : BitVec n × Bool → BitVec n × Bool) : Nat → BitVec n × Bool → BitVec n × Bool
  | 0, p => p
  | c + 1, p => shiftBy step c (step p)

/-- The count of a CL form: CL, 0 to 255 (R210, R218). -/
def State.clCount (s : State) : Nat := (s.reg8 .cl).toNat

/-- The operand and CF after a CL form's steps (R219). -/
def State.shiftCl {n : Nat} (s : State) (step : BitVec n × Bool → BitVec n × Bool) (x : BitVec n) : BitVec n × Bool :=
  shiftBy step s.clCount (x, s.flags.CF)

/-! ### Flags of the two forms (R220) -/

/-- OF of ROL, RCL and SAL by 1: `msb(result) XOR CF(after)` (R211, R213, R215). -/
def ofLeft {n : Nat} (r : BitVec n × Bool) : Bool := r.1.msb != r.2

/-- OF of ROR and RCR by 1: `msb(result) XOR` the bit below it (R212, R214). -/
def ofRight {n : Nat} (r : BitVec n) : Bool := r.msb != r.getLsbD (n - 2)

/-- A one-bit form that writes CF and OF only (R220). -/
def State.shiftOne {n : Nat} (s : State) (r : BitVec n × Bool) (o : Bool) : BitVec n × State :=
  (r.1, s.setFlags { s.flags with CF := r.2, OF := o })

/-- A CL form that writes CF only; OF is a free value for every count (R219, D11). -/
def State.shiftMany {n : Nat} (s : State) (r : BitVec n × Bool) : BitVec n × State :=
  (r.1, (s.setFlags { s.flags with CF := r.2, OF := s.freeFlag 0 }).drew 1)

def rolOne {n : Nat} (s : State) (x : BitVec n) : BitVec n × State :=
  let r := rolStep (x, s.flags.CF)
  s.shiftOne r (ofLeft r)

def rolCl {n : Nat} (s : State) (x : BitVec n) : BitVec n × State := s.shiftMany (s.shiftCl rolStep x)

def rorOne {n : Nat} (s : State) (x : BitVec n) : BitVec n × State :=
  let r := rorStep (x, s.flags.CF)
  s.shiftOne r (ofRight r.1)

def rorCl {n : Nat} (s : State) (x : BitVec n) : BitVec n × State := s.shiftMany (s.shiftCl rorStep x)

def rclOne {n : Nat} (s : State) (x : BitVec n) : BitVec n × State :=
  let r := rclStep (x, s.flags.CF)
  s.shiftOne r (ofLeft r)

def rclCl {n : Nat} (s : State) (x : BitVec n) : BitVec n × State := s.shiftMany (s.shiftCl rclStep x)

def rcrOne {n : Nat} (s : State) (x : BitVec n) : BitVec n × State :=
  let r := rcrStep (x, s.flags.CF)
  s.shiftOne r (ofRight r.1)

def rcrCl {n : Nat} (s : State) (x : BitVec n) : BitVec n × State := s.shiftMany (s.shiftCl rcrStep x)

/-- SAL by 1: SF, ZF, PF from the result, AF a free value (R215). -/
def salOne {n : Nat} (s : State) (x : BitVec n) : BitVec n × State :=
  let r := salStep (x, s.flags.CF)
  (r.1, (s.setFlags { s.flags.setSZP r.1 with CF := r.2, OF := ofLeft r, AF := s.freeFlag 0 }).drew 1)

/-- SAL by CL: count 0 leaves every flag but OF, which is a free value; else SF, ZF, PF from the result, OF and AF free
values (R215, R219, D11). -/
def salCl {n : Nat} (s : State) (x : BitVec n) : BitVec n × State :=
  let r := s.shiftCl salStep x
  if s.clCount = 0 then s.shiftMany r
  else (r.1, (s.setFlags { s.flags.setSZP r.1 with CF := r.2, OF := s.freeFlag 0, AF := s.freeFlag 1 }).drew 2)

/-- SHR by 1: OF is the operand's top bit before (R216). -/
def shrOne {n : Nat} (s : State) (x : BitVec n) : BitVec n × State := s.shiftOne (shrStep (x, s.flags.CF)) x.msb

def shrCl {n : Nat} (s : State) (x : BitVec n) : BitVec n × State := s.shiftMany (s.shiftCl shrStep x)

/-- SAR by 1: OF cleared (R217). -/
def sarOne {n : Nat} (s : State) (x : BitVec n) : BitVec n × State := s.shiftOne (sarStep (x, s.flags.CF)) false

/-- SAR by CL: OF cleared when the count is at least 1, else a free value (R217, R219, `90_conflicts` C23). -/
def sarCl {n : Nat} (s : State) (x : BitVec n) : BitVec n × State :=
  let r := s.shiftCl sarStep x
  if s.clCount = 0 then s.shiftMany r else s.shiftOne r false

/-! ### The meanings -/

/-- ROL r/m8, 1 (D0 /0), R211. -/
def execRolRm8One (d : Rm8) (s : State) : Host.Outcome State Fault Refusal := unRm8 rolOne d s

/-- ROL r/m16, 1 (D1 /0), R211. -/
def execRolRm16One (d : Rm16) (s : State) : Host.Outcome State Fault Refusal := unRm16 rolOne d s

/-- ROL r/m8, CL (D2 /0), R211. -/
def execRolRm8Cl (d : Rm8) (s : State) : Host.Outcome State Fault Refusal := unRm8 rolCl d s

/-- ROL r/m16, CL (D3 /0), R211. -/
def execRolRm16Cl (d : Rm16) (s : State) : Host.Outcome State Fault Refusal := unRm16 rolCl d s

/-- ROR r/m8, 1 (D0 /1), R212. -/
def execRorRm8One (d : Rm8) (s : State) : Host.Outcome State Fault Refusal := unRm8 rorOne d s

/-- ROR r/m16, 1 (D1 /1), R212. -/
def execRorRm16One (d : Rm16) (s : State) : Host.Outcome State Fault Refusal := unRm16 rorOne d s

/-- ROR r/m8, CL (D2 /1), R212. -/
def execRorRm8Cl (d : Rm8) (s : State) : Host.Outcome State Fault Refusal := unRm8 rorCl d s

/-- ROR r/m16, CL (D3 /1), R212. -/
def execRorRm16Cl (d : Rm16) (s : State) : Host.Outcome State Fault Refusal := unRm16 rorCl d s

/-- RCL r/m8, 1 (D0 /2), R213. -/
def execRclRm8One (d : Rm8) (s : State) : Host.Outcome State Fault Refusal := unRm8 rclOne d s

/-- RCL r/m16, 1 (D1 /2), R213. -/
def execRclRm16One (d : Rm16) (s : State) : Host.Outcome State Fault Refusal := unRm16 rclOne d s

/-- RCL r/m8, CL (D2 /2), R213. -/
def execRclRm8Cl (d : Rm8) (s : State) : Host.Outcome State Fault Refusal := unRm8 rclCl d s

/-- RCL r/m16, CL (D3 /2), R213. -/
def execRclRm16Cl (d : Rm16) (s : State) : Host.Outcome State Fault Refusal := unRm16 rclCl d s

/-- RCR r/m8, 1 (D0 /3), R214. -/
def execRcrRm8One (d : Rm8) (s : State) : Host.Outcome State Fault Refusal := unRm8 rcrOne d s

/-- RCR r/m16, 1 (D1 /3), R214. -/
def execRcrRm16One (d : Rm16) (s : State) : Host.Outcome State Fault Refusal := unRm16 rcrOne d s

/-- RCR r/m8, CL (D2 /3), R214. -/
def execRcrRm8Cl (d : Rm8) (s : State) : Host.Outcome State Fault Refusal := unRm8 rcrCl d s

/-- RCR r/m16, CL (D3 /3), R214. -/
def execRcrRm16Cl (d : Rm16) (s : State) : Host.Outcome State Fault Refusal := unRm16 rcrCl d s

/-- SAL = SHL r/m8, 1 (D0 /4), R215. -/
def execSalRm8One (d : Rm8) (s : State) : Host.Outcome State Fault Refusal := unRm8 salOne d s

/-- SAL = SHL r/m16, 1 (D1 /4), R215. -/
def execSalRm16One (d : Rm16) (s : State) : Host.Outcome State Fault Refusal := unRm16 salOne d s

/-- SAL = SHL r/m8, CL (D2 /4), R215. -/
def execSalRm8Cl (d : Rm8) (s : State) : Host.Outcome State Fault Refusal := unRm8 salCl d s

/-- SAL = SHL r/m16, CL (D3 /4), R215. -/
def execSalRm16Cl (d : Rm16) (s : State) : Host.Outcome State Fault Refusal := unRm16 salCl d s

/-- SHR r/m8, 1 (D0 /5), R216. -/
def execShrRm8One (d : Rm8) (s : State) : Host.Outcome State Fault Refusal := unRm8 shrOne d s

/-- SHR r/m16, 1 (D1 /5), R216. -/
def execShrRm16One (d : Rm16) (s : State) : Host.Outcome State Fault Refusal := unRm16 shrOne d s

/-- SHR r/m8, CL (D2 /5), R216. -/
def execShrRm8Cl (d : Rm8) (s : State) : Host.Outcome State Fault Refusal := unRm8 shrCl d s

/-- SHR r/m16, CL (D3 /5), R216. -/
def execShrRm16Cl (d : Rm16) (s : State) : Host.Outcome State Fault Refusal := unRm16 shrCl d s

/-- SAR r/m8, 1 (D0 /7), R217. -/
def execSarRm8One (d : Rm8) (s : State) : Host.Outcome State Fault Refusal := unRm8 sarOne d s

/-- SAR r/m16, 1 (D1 /7), R217. -/
def execSarRm16One (d : Rm16) (s : State) : Host.Outcome State Fault Refusal := unRm16 sarOne d s

/-- SAR r/m8, CL (D2 /7), R217. -/
def execSarRm8Cl (d : Rm8) (s : State) : Host.Outcome State Fault Refusal := unRm8 sarCl d s

/-- SAR r/m16, CL (D3 /7), R217. -/
def execSarRm16Cl (d : Rm16) (s : State) : Host.Outcome State Fault Refusal := unRm16 sarCl d s

end Sys2Proof.Machine
end

