-- ==== Sys2Proof/Machine/Strings.lean ====
section
/-! DEFINITION. String instructions, and their repetition (spec 44_string R230 to R239, 47_prefixes R304 to R309). IP is
already `next_IP` (R17). -/

namespace Sys2Proof.Machine

/-! ### One element -/

/-- The amount an index register moves by: the element size, negated when DF is set (R238). -/
def State.delta (s : State) (size : Word) : Word := if s.flags.DF then -size else size

/-- Move SI (R238). -/
def State.moveSi (s : State) (size : Word) : State := s.setReg16 .si (s.regs.si + s.delta size)

/-- Move DI (R238). -/
def State.moveDi (s : State) (size : Word) : State := s.setReg16 .di (s.regs.di + s.delta size)

/-- MOVSB, one element (R231). -/
def movs8 (s : State) : Res State := do
  let v ← s.memRead8 s.dataSeg s.regs.si
  let s ← s.memWrite8 s.segs.es s.regs.di v
  return (s.moveSi 1).moveDi 1

/-- MOVSW, one element (R231). -/
def movs16 (s : State) : Res State := do
  let v ← s.memRead16 s.dataSeg s.regs.si
  let s ← s.memWrite16 s.segs.es s.regs.di v
  return (s.moveSi 2).moveDi 2

/-- CMPSB, one element: flags of source minus destination (R232). -/
def cmps8 (s : State) : Res State := do
  let a ← s.memRead8 s.dataSeg s.regs.si
  let b ← s.memRead8 s.segs.es s.regs.di
  return ((s.setFlags (subFlags s.flags a b false).2).moveSi 1).moveDi 1

/-- CMPSW, one element (R232). -/
def cmps16 (s : State) : Res State := do
  let a ← s.memRead16 s.dataSeg s.regs.si
  let b ← s.memRead16 s.segs.es s.regs.di
  return ((s.setFlags (subFlags s.flags a b false).2).moveSi 2).moveDi 2

/-- SCASB, one element: flags of AL minus memory (R233). -/
def scas8 (s : State) : Res State := do
  let b ← s.memRead8 s.segs.es s.regs.di
  return (s.setFlags (subFlags s.flags (s.reg8 .al) b false).2).moveDi 1

/-- SCASW, one element: flags of AX minus memory (R233). -/
def scas16 (s : State) : Res State := do
  let b ← s.memRead16 s.segs.es s.regs.di
  return (s.setFlags (subFlags s.flags s.regs.ax b false).2).moveDi 2

/-- LODSB, one element (R234). -/
def lods8 (s : State) : Res State := do
  let v ← s.memRead8 s.dataSeg s.regs.si
  return (s.setReg8 .al v).moveSi 1

/-- LODSW, one element (R234). -/
def lods16 (s : State) : Res State := do
  let v ← s.memRead16 s.dataSeg s.regs.si
  return (s.setReg16 .ax v).moveSi 2

/-- STOSB, one element (R235). -/
def stos8 (s : State) : Res State := do
  let s ← s.memWrite8 s.segs.es s.regs.di (s.reg8 .al)
  return s.moveDi 1

/-- STOSW, one element (R235). -/
def stos16 (s : State) : Res State := do
  let s ← s.memWrite16 s.segs.es s.regs.di s.regs.ax
  return s.moveDi 2

/-! ### Repetition -/

/-- One iteration: the element, then CX decremented with no flag changed (R305). -/
def repOnce (el : State → Res State) (s : State) : Res State := do
  let s ← el s
  return s.setReg16 .cx (s.regs.cx - 1)

/-- Does the repetition stop after this iteration? CX is 0, or the condition that CMPS and SCAS test (R305). -/
def repStop (cond : Option RepKind) (s : State) : Bool :=
  s.regs.cx == 0 ||
    match cond with
    | none => false
    | some .rep => !s.flags.ZF
    | some .repne => s.flags.ZF

/-- At most `n` iterations, the test after each (R305). -/
def repLoop (el : State → Res State) (cond : Option RepKind) : Nat → State → Res State
  | 0, s => .ok s
  | n + 1, s => do
    let s ← repOnce el s
    if repStop cond s then return s else repLoop el cond n s

/-- How many iterations bring CX to 0: entered with 0 it runs 65536 times (R305). -/
def repCount (s : State) : Nat := if s.regs.cx = 0 then 2 ^ 16 else s.regs.cx.toNat

/-- The repetition: whole (the default), or one iteration per step when `REP_INTERRUPTIBLE`, which goes on in the next step
unless the loop has stopped (R309, R344). -/
def repeated (i : Instr) (el : State → Res State) (cond : Option RepKind) (s : State) : Res State :=
  if s.cfg.repInterruptible then do
    let t ← repOnce el s
    return if repStop cond t then t else { t with pause := .repeating i }
  else repLoop el cond (repCount s) s

/-- MOVS, LODS, STOS: the repetition ends when CX is 0 (R304, R306). -/
def plainRep (i : Instr) (el : State → Res State) (s : State) : Host.Outcome State Fault Refusal :=
  match s.pfx.rep with
  | none => finish (el s)
  | some _ => finish (repeated i el none s)

/-- CMPS, SCAS: the repetition also ends on ZF (R304, R306). -/
def condRep (i : Instr) (el : State → Res State) (s : State) : Host.Outcome State Fault Refusal :=
  match s.pfx.rep with
  | none => finish (el s)
  | some k => finish (repeated i el (some k) s)

/-! ### The meanings -/

/-- MOVSB (A4), R231. -/
def execMovsb (s : State) : Host.Outcome State Fault Refusal := plainRep .movsb movs8 s

/-- MOVSW (A5), R231. -/
def execMovsw (s : State) : Host.Outcome State Fault Refusal := plainRep .movsw movs16 s

/-- CMPSB (A6), R232. -/
def execCmpsb (s : State) : Host.Outcome State Fault Refusal := condRep .cmpsb cmps8 s

/-- CMPSW (A7), R232. -/
def execCmpsw (s : State) : Host.Outcome State Fault Refusal := condRep .cmpsw cmps16 s

/-- STOSB (AA), R235. -/
def execStosb (s : State) : Host.Outcome State Fault Refusal := plainRep .stosb stos8 s

/-- STOSW (AB), R235. -/
def execStosw (s : State) : Host.Outcome State Fault Refusal := plainRep .stosw stos16 s

/-- LODSB (AC), R234. -/
def execLodsb (s : State) : Host.Outcome State Fault Refusal := plainRep .lodsb lods8 s

/-- LODSW (AD), R234. -/
def execLodsw (s : State) : Host.Outcome State Fault Refusal := plainRep .lodsw lods16 s

/-- SCASB (AE), R233. -/
def execScasb (s : State) : Host.Outcome State Fault Refusal := condRep .scasb scas8 s

/-- SCASW (AF), R233. -/
def execScasw (s : State) : Host.Outcome State Fault Refusal := condRep .scasw scas16 s

end Sys2Proof.Machine
end

