-- ==== Sys2Proof/Machine/Dispatch.lean ====
section
/-! DEFINITION. The dispatch: one direct call of a meaning per instruction. -/

namespace Sys2Proof.Machine

def exec (i : Instr) (s : State) : Host.Outcome State Fault Refusal :=
  match i with
  | .addRm8R8 d r => Sys2Proof.Machine.execAddRm8R8 d r s
  | .addRm16R16 d r => Sys2Proof.Machine.execAddRm16R16 d r s
  | .addR8Rm8 r m => Sys2Proof.Machine.execAddR8Rm8 r m s
  | .addR16Rm16 r m => Sys2Proof.Machine.execAddR16Rm16 r m s
  | .addAlImm8 v => Sys2Proof.Machine.execAddAlImm8 v s
  | .addAxImm16 v => Sys2Proof.Machine.execAddAxImm16 v s
  | .addRm8Imm8 d v => Sys2Proof.Machine.execAddRm8Imm8 d v s
  | .addRm16Imm16 d v => Sys2Proof.Machine.execAddRm16Imm16 d v s
  | .addRm16Imm8 d v => Sys2Proof.Machine.execAddRm16Imm8 d v s
  | .orRm8R8 d r => Sys2Proof.Machine.execOrRm8R8 d r s
  | .orRm16R16 d r => Sys2Proof.Machine.execOrRm16R16 d r s
  | .orR8Rm8 r m => Sys2Proof.Machine.execOrR8Rm8 r m s
  | .orR16Rm16 r m => Sys2Proof.Machine.execOrR16Rm16 r m s
  | .orAlImm8 v => Sys2Proof.Machine.execOrAlImm8 v s
  | .orAxImm16 v => Sys2Proof.Machine.execOrAxImm16 v s
  | .orRm8Imm8 d v => Sys2Proof.Machine.execOrRm8Imm8 d v s
  | .orRm16Imm16 d v => Sys2Proof.Machine.execOrRm16Imm16 d v s
  | .adcRm8R8 d r => Sys2Proof.Machine.execAdcRm8R8 d r s
  | .adcRm16R16 d r => Sys2Proof.Machine.execAdcRm16R16 d r s
  | .adcR8Rm8 r m => Sys2Proof.Machine.execAdcR8Rm8 r m s
  | .adcR16Rm16 r m => Sys2Proof.Machine.execAdcR16Rm16 r m s
  | .adcAlImm8 v => Sys2Proof.Machine.execAdcAlImm8 v s
  | .adcAxImm16 v => Sys2Proof.Machine.execAdcAxImm16 v s
  | .adcRm8Imm8 d v => Sys2Proof.Machine.execAdcRm8Imm8 d v s
  | .adcRm16Imm16 d v => Sys2Proof.Machine.execAdcRm16Imm16 d v s
  | .adcRm16Imm8 d v => Sys2Proof.Machine.execAdcRm16Imm8 d v s
  | .sbbRm8R8 d r => Sys2Proof.Machine.execSbbRm8R8 d r s
  | .sbbRm16R16 d r => Sys2Proof.Machine.execSbbRm16R16 d r s
  | .sbbR8Rm8 r m => Sys2Proof.Machine.execSbbR8Rm8 r m s
  | .sbbR16Rm16 r m => Sys2Proof.Machine.execSbbR16Rm16 r m s
  | .sbbAlImm8 v => Sys2Proof.Machine.execSbbAlImm8 v s
  | .sbbAxImm16 v => Sys2Proof.Machine.execSbbAxImm16 v s
  | .sbbRm8Imm8 d v => Sys2Proof.Machine.execSbbRm8Imm8 d v s
  | .sbbRm16Imm16 d v => Sys2Proof.Machine.execSbbRm16Imm16 d v s
  | .sbbRm16Imm8 d v => Sys2Proof.Machine.execSbbRm16Imm8 d v s
  | .andRm8R8 d r => Sys2Proof.Machine.execAndRm8R8 d r s
  | .andRm16R16 d r => Sys2Proof.Machine.execAndRm16R16 d r s
  | .andR8Rm8 r m => Sys2Proof.Machine.execAndR8Rm8 r m s
  | .andR16Rm16 r m => Sys2Proof.Machine.execAndR16Rm16 r m s
  | .andAlImm8 v => Sys2Proof.Machine.execAndAlImm8 v s
  | .andAxImm16 v => Sys2Proof.Machine.execAndAxImm16 v s
  | .andRm8Imm8 d v => Sys2Proof.Machine.execAndRm8Imm8 d v s
  | .andRm16Imm16 d v => Sys2Proof.Machine.execAndRm16Imm16 d v s
  | .subRm8R8 d r => Sys2Proof.Machine.execSubRm8R8 d r s
  | .subRm16R16 d r => Sys2Proof.Machine.execSubRm16R16 d r s
  | .subR8Rm8 r m => Sys2Proof.Machine.execSubR8Rm8 r m s
  | .subR16Rm16 r m => Sys2Proof.Machine.execSubR16Rm16 r m s
  | .subAlImm8 v => Sys2Proof.Machine.execSubAlImm8 v s
  | .subAxImm16 v => Sys2Proof.Machine.execSubAxImm16 v s
  | .subRm8Imm8 d v => Sys2Proof.Machine.execSubRm8Imm8 d v s
  | .subRm16Imm16 d v => Sys2Proof.Machine.execSubRm16Imm16 d v s
  | .subRm16Imm8 d v => Sys2Proof.Machine.execSubRm16Imm8 d v s
  | .xorRm8R8 d r => Sys2Proof.Machine.execXorRm8R8 d r s
  | .xorRm16R16 d r => Sys2Proof.Machine.execXorRm16R16 d r s
  | .xorR8Rm8 r m => Sys2Proof.Machine.execXorR8Rm8 r m s
  | .xorR16Rm16 r m => Sys2Proof.Machine.execXorR16Rm16 r m s
  | .xorAlImm8 v => Sys2Proof.Machine.execXorAlImm8 v s
  | .xorAxImm16 v => Sys2Proof.Machine.execXorAxImm16 v s
  | .xorRm8Imm8 d v => Sys2Proof.Machine.execXorRm8Imm8 d v s
  | .xorRm16Imm16 d v => Sys2Proof.Machine.execXorRm16Imm16 d v s
  | .cmpRm8R8 d r => Sys2Proof.Machine.execCmpRm8R8 d r s
  | .cmpRm16R16 d r => Sys2Proof.Machine.execCmpRm16R16 d r s
  | .cmpR8Rm8 r m => Sys2Proof.Machine.execCmpR8Rm8 r m s
  | .cmpR16Rm16 r m => Sys2Proof.Machine.execCmpR16Rm16 r m s
  | .cmpAlImm8 v => Sys2Proof.Machine.execCmpAlImm8 v s
  | .cmpAxImm16 v => Sys2Proof.Machine.execCmpAxImm16 v s
  | .cmpRm8Imm8 d v => Sys2Proof.Machine.execCmpRm8Imm8 d v s
  | .cmpRm16Imm16 d v => Sys2Proof.Machine.execCmpRm16Imm16 d v s
  | .cmpRm16Imm8 d v => Sys2Proof.Machine.execCmpRm16Imm8 d v s
  | .pushEs => Sys2Proof.Machine.execPushEs s
  | .pushCs => Sys2Proof.Machine.execPushCs s
  | .pushSs => Sys2Proof.Machine.execPushSs s
  | .pushDs => Sys2Proof.Machine.execPushDs s
  | .pushR16 r => Sys2Proof.Machine.execPushR16 r s
  | .pushRm16 m => Sys2Proof.Machine.execPushRm16 m s
  | .popEs => Sys2Proof.Machine.execPopEs s
  | .popSs => Sys2Proof.Machine.execPopSs s
  | .popDs => Sys2Proof.Machine.execPopDs s
  | .popR16 r => Sys2Proof.Machine.execPopR16 r s
  | .popRm16 d => Sys2Proof.Machine.execPopRm16 d s
  | .segEs => Sys2Proof.Machine.execSegEs s
  | .segCs => Sys2Proof.Machine.execSegCs s
  | .segSs => Sys2Proof.Machine.execSegSs s
  | .segDs => Sys2Proof.Machine.execSegDs s
  | .lock => Sys2Proof.Machine.execLock s
  | .repne => Sys2Proof.Machine.execRepne s
  | .rep => Sys2Proof.Machine.execRep s
  | .daa => Sys2Proof.Machine.execDaa s
  | .das => Sys2Proof.Machine.execDas s
  | .aaa => Sys2Proof.Machine.execAaa s
  | .aas => Sys2Proof.Machine.execAas s
  | .aam => Sys2Proof.Machine.execAam s
  | .aad => Sys2Proof.Machine.execAad s
  | .incR16 r => Sys2Proof.Machine.execIncR16 r s
  | .incRm8 d => Sys2Proof.Machine.execIncRm8 d s
  | .incRm16 d => Sys2Proof.Machine.execIncRm16 d s
  | .decR16 r => Sys2Proof.Machine.execDecR16 r s
  | .decRm8 d => Sys2Proof.Machine.execDecRm8 d s
  | .decRm16 d => Sys2Proof.Machine.execDecRm16 d s
  | .jo d => Sys2Proof.Machine.execJo d s
  | .jno d => Sys2Proof.Machine.execJno d s
  | .jb d => Sys2Proof.Machine.execJb d s
  | .jnb d => Sys2Proof.Machine.execJnb d s
  | .je d => Sys2Proof.Machine.execJe d s
  | .jne d => Sys2Proof.Machine.execJne d s
  | .jbe d => Sys2Proof.Machine.execJbe d s
  | .jnbe d => Sys2Proof.Machine.execJnbe d s
  | .js d => Sys2Proof.Machine.execJs d s
  | .jns d => Sys2Proof.Machine.execJns d s
  | .jp d => Sys2Proof.Machine.execJp d s
  | .jnp d => Sys2Proof.Machine.execJnp d s
  | .jl d => Sys2Proof.Machine.execJl d s
  | .jnl d => Sys2Proof.Machine.execJnl d s
  | .jle d => Sys2Proof.Machine.execJle d s
  | .jnle d => Sys2Proof.Machine.execJnle d s
  | .testRm8R8 a r => Sys2Proof.Machine.execTestRm8R8 a r s
  | .testRm16R16 a r => Sys2Proof.Machine.execTestRm16R16 a r s
  | .testAlImm8 v => Sys2Proof.Machine.execTestAlImm8 v s
  | .testAxImm16 v => Sys2Proof.Machine.execTestAxImm16 v s
  | .testRm8Imm8 a v => Sys2Proof.Machine.execTestRm8Imm8 a v s
  | .testRm16Imm16 a v => Sys2Proof.Machine.execTestRm16Imm16 a v s
  | .xchgRm8R8 m r => Sys2Proof.Machine.execXchgRm8R8 m r s
  | .xchgRm16R16 m r => Sys2Proof.Machine.execXchgRm16R16 m r s
  | .xchgAxCx => Sys2Proof.Machine.execXchgAxCx s
  | .xchgAxDx => Sys2Proof.Machine.execXchgAxDx s
  | .xchgAxBx => Sys2Proof.Machine.execXchgAxBx s
  | .xchgAxSp => Sys2Proof.Machine.execXchgAxSp s
  | .xchgAxBp => Sys2Proof.Machine.execXchgAxBp s
  | .xchgAxSi => Sys2Proof.Machine.execXchgAxSi s
  | .xchgAxDi => Sys2Proof.Machine.execXchgAxDi s
  | .movRm8R8 d r => Sys2Proof.Machine.execMovRm8R8 d r s
  | .movRm16R16 d r => Sys2Proof.Machine.execMovRm16R16 d r s
  | .movR8Rm8 r m => Sys2Proof.Machine.execMovR8Rm8 r m s
  | .movR16Rm16 r m => Sys2Proof.Machine.execMovR16Rm16 r m s
  | .movRm16Sreg d r => Sys2Proof.Machine.execMovRm16Sreg d r s
  | .movEsRm16 m => Sys2Proof.Machine.execMovEsRm16 m s
  | .movSsRm16 m => Sys2Proof.Machine.execMovSsRm16 m s
  | .movDsRm16 m => Sys2Proof.Machine.execMovDsRm16 m s
  | .movAlM8 o => Sys2Proof.Machine.execMovAlM8 o s
  | .movAxM16 o => Sys2Proof.Machine.execMovAxM16 o s
  | .movM8Al o => Sys2Proof.Machine.execMovM8Al o s
  | .movM16Ax o => Sys2Proof.Machine.execMovM16Ax o s
  | .movR8Imm8 r v => Sys2Proof.Machine.execMovR8Imm8 r v s
  | .movR16Imm16 r v => Sys2Proof.Machine.execMovR16Imm16 r v s
  | .movRm8Imm8 d v => Sys2Proof.Machine.execMovRm8Imm8 d v s
  | .movRm16Imm16 d v => Sys2Proof.Machine.execMovRm16Imm16 d v s
  | .lea r m => Sys2Proof.Machine.execLea r m s
  | .les r m => Sys2Proof.Machine.execLes r m s
  | .lds r m => Sys2Proof.Machine.execLds r m s
  | .nop => Sys2Proof.Machine.execNop s
  | .cbw => Sys2Proof.Machine.execCbw s
  | .cwd => Sys2Proof.Machine.execCwd s
  | .wait => Sys2Proof.Machine.execWait s
  | .pushf => Sys2Proof.Machine.execPushf s
  | .popf => Sys2Proof.Machine.execPopf s
  | .sahf => Sys2Proof.Machine.execSahf s
  | .lahf => Sys2Proof.Machine.execLahf s
  | .movsb => Sys2Proof.Machine.execMovsb s
  | .movsw => Sys2Proof.Machine.execMovsw s
  | .cmpsb => Sys2Proof.Machine.execCmpsb s
  | .cmpsw => Sys2Proof.Machine.execCmpsw s
  | .stosb => Sys2Proof.Machine.execStosb s
  | .stosw => Sys2Proof.Machine.execStosw s
  | .lodsb => Sys2Proof.Machine.execLodsb s
  | .lodsw => Sys2Proof.Machine.execLodsw s
  | .scasb => Sys2Proof.Machine.execScasb s
  | .scasw => Sys2Proof.Machine.execScasw s
  | .retNearImm16 v => Sys2Proof.Machine.execRetNearImm16 v s
  | .retNear => Sys2Proof.Machine.execRetNear s
  | .retFarImm16 v => Sys2Proof.Machine.execRetFarImm16 v s
  | .retFar => Sys2Proof.Machine.execRetFar s
  | .int3 => Sys2Proof.Machine.execInt3 s
  | .int n => Sys2Proof.Machine.execInt n s
  | .into => Sys2Proof.Machine.execInto s
  | .iret => Sys2Proof.Machine.execIret s
  | .rolRm8One d => Sys2Proof.Machine.execRolRm8One d s
  | .rolRm16One d => Sys2Proof.Machine.execRolRm16One d s
  | .rolRm8Cl d => Sys2Proof.Machine.execRolRm8Cl d s
  | .rolRm16Cl d => Sys2Proof.Machine.execRolRm16Cl d s
  | .rorRm8One d => Sys2Proof.Machine.execRorRm8One d s
  | .rorRm16One d => Sys2Proof.Machine.execRorRm16One d s
  | .rorRm8Cl d => Sys2Proof.Machine.execRorRm8Cl d s
  | .rorRm16Cl d => Sys2Proof.Machine.execRorRm16Cl d s
  | .rclRm8One d => Sys2Proof.Machine.execRclRm8One d s
  | .rclRm16One d => Sys2Proof.Machine.execRclRm16One d s
  | .rclRm8Cl d => Sys2Proof.Machine.execRclRm8Cl d s
  | .rclRm16Cl d => Sys2Proof.Machine.execRclRm16Cl d s
  | .rcrRm8One d => Sys2Proof.Machine.execRcrRm8One d s
  | .rcrRm16One d => Sys2Proof.Machine.execRcrRm16One d s
  | .rcrRm8Cl d => Sys2Proof.Machine.execRcrRm8Cl d s
  | .rcrRm16Cl d => Sys2Proof.Machine.execRcrRm16Cl d s
  | .salRm8One d => Sys2Proof.Machine.execSalRm8One d s
  | .salRm16One d => Sys2Proof.Machine.execSalRm16One d s
  | .salRm8Cl d => Sys2Proof.Machine.execSalRm8Cl d s
  | .salRm16Cl d => Sys2Proof.Machine.execSalRm16Cl d s
  | .shrRm8One d => Sys2Proof.Machine.execShrRm8One d s
  | .shrRm16One d => Sys2Proof.Machine.execShrRm16One d s
  | .shrRm8Cl d => Sys2Proof.Machine.execShrRm8Cl d s
  | .shrRm16Cl d => Sys2Proof.Machine.execShrRm16Cl d s
  | .sarRm8One d => Sys2Proof.Machine.execSarRm8One d s
  | .sarRm16One d => Sys2Proof.Machine.execSarRm16One d s
  | .sarRm8Cl d => Sys2Proof.Machine.execSarRm8Cl d s
  | .sarRm16Cl d => Sys2Proof.Machine.execSarRm16Cl d s
  | .xlatb => Sys2Proof.Machine.execXlatb s
  | .esc op6 m => Sys2Proof.Machine.execEsc op6 m s
  | .loopne d => Sys2Proof.Machine.execLoopne d s
  | .loope d => Sys2Proof.Machine.execLoope d s
  | .loop d => Sys2Proof.Machine.execLoop d s
  | .jcxz d => Sys2Proof.Machine.execJcxz d s
  | .inAlImm8 p => Sys2Proof.Machine.execInAlImm8 p s
  | .inAxImm8 p => Sys2Proof.Machine.execInAxImm8 p s
  | .outImm8Al p => Sys2Proof.Machine.execOutImm8Al p s
  | .outImm8Ax p => Sys2Proof.Machine.execOutImm8Ax p s
  | .inAlDx => Sys2Proof.Machine.execInAlDx s
  | .inAxDx => Sys2Proof.Machine.execInAxDx s
  | .outDxAl => Sys2Proof.Machine.execOutDxAl s
  | .outDxAx => Sys2Proof.Machine.execOutDxAx s
  | .callRel16 d => Sys2Proof.Machine.execCallRel16 d s
  | .callFar o g => Sys2Proof.Machine.execCallFar o g s
  | .callRm16 m => Sys2Proof.Machine.execCallRm16 m s
  | .callM m => Sys2Proof.Machine.execCallM m s
  | .jmpRel8 d => Sys2Proof.Machine.execJmpRel8 d s
  | .jmpRel16 d => Sys2Proof.Machine.execJmpRel16 d s
  | .jmpFar o g => Sys2Proof.Machine.execJmpFar o g s
  | .jmpRm16 m => Sys2Proof.Machine.execJmpRm16 m s
  | .jmpM m => Sys2Proof.Machine.execJmpM m s
  | .hlt => Sys2Proof.Machine.execHlt s
  | .cmc => Sys2Proof.Machine.execCmc s
  | .unused op next => Sys2Proof.Machine.execUnused op next s
  | .notRm8 d => Sys2Proof.Machine.execNotRm8 d s
  | .notRm16 d => Sys2Proof.Machine.execNotRm16 d s
  | .negRm8 d => Sys2Proof.Machine.execNegRm8 d s
  | .negRm16 d => Sys2Proof.Machine.execNegRm16 d s
  | .mulRm8 m => Sys2Proof.Machine.execMulRm8 m s
  | .mulRm16 m => Sys2Proof.Machine.execMulRm16 m s
  | .imulRm8 m => Sys2Proof.Machine.execImulRm8 m s
  | .imulRm16 m => Sys2Proof.Machine.execImulRm16 m s
  | .divRm8 m => Sys2Proof.Machine.execDivRm8 m s
  | .divRm16 m => Sys2Proof.Machine.execDivRm16 m s
  | .idivRm8 m => Sys2Proof.Machine.execIdivRm8 m s
  | .idivRm16 m => Sys2Proof.Machine.execIdivRm16 m s
  | .clc => Sys2Proof.Machine.execClc s
  | .stc => Sys2Proof.Machine.execStc s
  | .cli => Sys2Proof.Machine.execCli s
  | .sti => Sys2Proof.Machine.execSti s
  | .cld => Sys2Proof.Machine.execCld s
  | .std => Sys2Proof.Machine.execStd s

end Sys2Proof.Machine
end

