-- ==== Sys2Proof/Machine/Unused.lean ====
section
/-! DEFINITION. The encodings the spec gives no meaning (30_encoding R103). -/

namespace Sys2Proof

/-- Is the pair (first opcode byte, byte that follows it) one that R103 refuses? -/
def unusedPair (op next : Byte) : Bool :=
  match op.toNat with
  | 0x0F | 0x60 | 0x61 | 0x62 | 0x63 | 0x64 | 0x65 | 0x66 | 0x67 | 0x68 | 0x69 | 0x6A | 0x6B | 0x6C | 0x6D | 0x6E
  | 0x6F | 0x82 | 0xC0 | 0xC1 | 0xC8 | 0xC9 | 0xD6 | 0xF1 => true
  | 0x83 => regOf next == 1 || regOf next == 4 || regOf next == 6
  | 0x8C => next.getLsbD 5
  | 0x8E => next.getLsbD 5 || regOf next == 1
  | 0x8F | 0xC6 | 0xC7 => regOf next != 0
  | 0xD0 | 0xD1 | 0xD2 | 0xD3 => regOf next == 6
  | 0xF6 | 0xF7 => regOf next == 1
  | 0xFE => regOf next != 0 && regOf next != 1
  | 0xFF => regOf next == 7 || ((regOf next == 3 || regOf next == 5) && modOf next == 3)
  | 0x8D | 0xC4 | 0xC5 => modOf next == 3
  | 0xD4 | 0xD5 => next != 0x0A
  | _ => false

end Sys2Proof
end

