-- ==== Sys2Proof/WellFormed.lean ====
section
/-! DEFINITION. Which terms of `Instr` are instructions: every operand has an encoding (30_encoding R92, R103). -/

namespace Sys2Proof

/-- Mod=00 with R/M=110 is the bare displacement, so BP alone always has one (R92). -/
def MemOp.wf : MemOp → Bool
  | .ind .bp => false
  | .abs _ | .ind _ | .ind8 _ _ | .ind16 _ _ => true

/-- A register, or a well-formed memory operand. -/
def Rm8.wf : Rm8 → Bool
  | .reg _ => true
  | .mem m => m.wf

/-- A register, or a well-formed memory operand. -/
def Rm16.wf : Rm16 → Bool
  | .reg _ => true
  | .mem m => m.wf

/-- The instruction has an encoding: its memory operand has one, and `unused` holds a pair that R103 lists. -/
def Instr.wf : Instr → Bool
  | .addRm8R8 o _ | .addR8Rm8 _ o | .addRm8Imm8 o _ | .orRm8R8 o _ | .orR8Rm8 _ o | .orRm8Imm8 o _ | .adcRm8R8 o _
  | .adcR8Rm8 _ o | .adcRm8Imm8 o _ | .sbbRm8R8 o _ | .sbbR8Rm8 _ o | .sbbRm8Imm8 o _ | .andRm8R8 o _ | .andR8Rm8 _ o
  | .andRm8Imm8 o _ | .subRm8R8 o _ | .subR8Rm8 _ o | .subRm8Imm8 o _ | .xorRm8R8 o _ | .xorR8Rm8 _ o
  | .xorRm8Imm8 o _ | .cmpRm8R8 o _ | .cmpR8Rm8 _ o | .cmpRm8Imm8 o _ | .incRm8 o | .decRm8 o | .testRm8R8 o _
  | .testRm8Imm8 o _ | .xchgRm8R8 o _ | .movRm8R8 o _ | .movR8Rm8 _ o | .movRm8Imm8 o _ | .rolRm8One o | .rolRm8Cl o
  | .rorRm8One o | .rorRm8Cl o | .rclRm8One o | .rclRm8Cl o | .rcrRm8One o | .rcrRm8Cl o | .salRm8One o | .salRm8Cl o
  | .shrRm8One o | .shrRm8Cl o | .sarRm8One o | .sarRm8Cl o | .notRm8 o | .negRm8 o | .mulRm8 o | .imulRm8 o
  | .divRm8 o | .idivRm8 o => o.wf
  | .addRm16R16 o _ | .addR16Rm16 _ o | .addRm16Imm16 o _ | .addRm16Imm8 o _ | .orRm16R16 o _ | .orR16Rm16 _ o
  | .orRm16Imm16 o _ | .adcRm16R16 o _ | .adcR16Rm16 _ o | .adcRm16Imm16 o _ | .adcRm16Imm8 o _ | .sbbRm16R16 o _
  | .sbbR16Rm16 _ o | .sbbRm16Imm16 o _ | .sbbRm16Imm8 o _ | .andRm16R16 o _ | .andR16Rm16 _ o | .andRm16Imm16 o _
  | .subRm16R16 o _ | .subR16Rm16 _ o | .subRm16Imm16 o _ | .subRm16Imm8 o _ | .xorRm16R16 o _ | .xorR16Rm16 _ o
  | .xorRm16Imm16 o _ | .cmpRm16R16 o _ | .cmpR16Rm16 _ o | .cmpRm16Imm16 o _ | .cmpRm16Imm8 o _ | .pushRm16 o
  | .popRm16 o | .incRm16 o | .decRm16 o | .testRm16R16 o _ | .testRm16Imm16 o _ | .xchgRm16R16 o _ | .movRm16R16 o _
  | .movR16Rm16 _ o | .movRm16Sreg o _ | .movEsRm16 o | .movSsRm16 o | .movDsRm16 o | .movRm16Imm16 o _
  | .rolRm16One o | .rolRm16Cl o | .rorRm16One o | .rorRm16Cl o | .rclRm16One o | .rclRm16Cl o | .rcrRm16One o
  | .rcrRm16Cl o | .salRm16One o | .salRm16Cl o | .shrRm16One o | .shrRm16Cl o | .sarRm16One o | .sarRm16Cl o
  | .esc _ o | .callRm16 o | .jmpRm16 o | .notRm16 o | .negRm16 o | .mulRm16 o | .imulRm16 o | .divRm16 o
  | .idivRm16 o => o.wf
  | .lea _ o | .les _ o | .lds _ o | .callM o | .jmpM o => o.wf
  | .unused op next => unusedPair op next
  | .addAlImm8 _ | .addAxImm16 _ | .orAlImm8 _ | .orAxImm16 _ | .adcAlImm8 _ | .adcAxImm16 _ | .sbbAlImm8 _
  | .sbbAxImm16 _ | .andAlImm8 _ | .andAxImm16 _ | .subAlImm8 _ | .subAxImm16 _ | .xorAlImm8 _ | .xorAxImm16 _
  | .cmpAlImm8 _ | .cmpAxImm16 _ | .pushEs | .pushCs | .pushSs | .pushDs | .pushR16 _ | .popEs | .popSs | .popDs
  | .popR16 _ | .segEs | .segCs | .segSs | .segDs | .lock | .repne | .rep | .daa | .das | .aaa | .aas | .aam | .aad
  | .incR16 _ | .decR16 _ | .jo _ | .jno _ | .jb _ | .jnb _ | .je _ | .jne _ | .jbe _ | .jnbe _ | .js _ | .jns _
  | .jp _ | .jnp _ | .jl _ | .jnl _ | .jle _ | .jnle _ | .testAlImm8 _ | .testAxImm16 _ | .xchgAxCx | .xchgAxDx
  | .xchgAxBx | .xchgAxSp | .xchgAxBp | .xchgAxSi | .xchgAxDi | .movAlM8 _ | .movAxM16 _ | .movM8Al _ | .movM16Ax _
  | .movR8Imm8 _ _ | .movR16Imm16 _ _ | .nop | .cbw | .cwd | .wait | .pushf | .popf | .sahf | .lahf | .movsb | .movsw
  | .cmpsb | .cmpsw | .stosb | .stosw | .lodsb | .lodsw | .scasb | .scasw | .retNearImm16 _ | .retNear
  | .retFarImm16 _ | .retFar | .int3 | .int _ | .into | .iret | .xlatb | .loopne _ | .loope _ | .loop _ | .jcxz _
  | .inAlImm8 _ | .inAxImm8 _ | .outImm8Al _ | .outImm8Ax _ | .inAlDx | .inAxDx | .outDxAl | .outDxAx | .callRel16 _
  | .callFar _ _ | .jmpRel8 _ | .jmpRel16 _ | .jmpFar _ _ | .hlt | .cmc | .clc | .stc | .cli | .sti | .cld | .std => true

end Sys2Proof
end

