-- ==== Sys2Proof/Decode.lean ====
section
/-! DEFINITION. The decoder, total on any bytes, and the encoder (spec 30_encoding R80 to R106). Prefix bytes decode to
instructions of their own; the step collects them (R99, notes/assumptions/13.md). -/

namespace Sys2Proof

/-! ### Register and address codes (R90, R91, R92) -/

def Reg8.code : Reg8 → BitVec 3
  | .al => 0
  | .cl => 1
  | .dl => 2
  | .bl => 3
  | .ah => 4
  | .ch => 5
  | .dh => 6
  | .bh => 7

def Reg8.ofCode (c : BitVec 3) : Reg8 :=
  match c.toNat with
  | 0 => .al
  | 1 => .cl
  | 2 => .dl
  | 3 => .bl
  | 4 => .ah
  | 5 => .ch
  | 6 => .dh
  | _ => .bh

def Reg16.code : Reg16 → BitVec 3
  | .ax => 0
  | .cx => 1
  | .dx => 2
  | .bx => 3
  | .sp => 4
  | .bp => 5
  | .si => 6
  | .di => 7

def Reg16.ofCode (c : BitVec 3) : Reg16 :=
  match c.toNat with
  | 0 => .ax
  | 1 => .cx
  | 2 => .dx
  | 3 => .bx
  | 4 => .sp
  | 5 => .bp
  | 6 => .si
  | _ => .di

/-- The Reg field of 8C: Sreg in bits 4:3, bit 5 zero (R91). -/
def SReg.regField : SReg → BitVec 3
  | .es => 0
  | .cs => 1
  | .ss => 2
  | .ds => 3

def Base.code : Base → BitVec 3
  | .bxsi => 0
  | .bxdi => 1
  | .bpsi => 2
  | .bpdi => 3
  | .si => 4
  | .di => 5
  | .bp => 6
  | .bx => 7

def Base.ofCode (c : BitVec 3) : Base :=
  match c.toNat with
  | 0 => .bxsi
  | 1 => .bxdi
  | 2 => .bpsi
  | 3 => .bpdi
  | 4 => .si
  | 5 => .di
  | 6 => .bp
  | _ => .bx

/-! ### Reading bytes -/

/-- Why bytes are no instruction. -/
inductive DecodeError
  /-- The bytes end inside the instruction. -/
  | truncated
deriving DecidableEq, Repr

/-- An instruction and the bytes that follow it. -/
abbrev Decoded := Except DecodeError (Instr × List Byte)

/-- The instruction is complete. -/
def done (i : Instr) (rest : List Byte) : Decoded := .ok (i, rest)

/-- Read one byte. -/
def withByte (bs : List Byte) (k : Byte → List Byte → Decoded) : Decoded :=
  match bs with
  | [] => .error .truncated
  | b :: rest => k b rest

/-- Read a 16-bit field, low byte first (R51). -/
def withWord (bs : List Byte) (k : Word → List Byte → Decoded) : Decoded :=
  withByte bs fun lo bs => withByte bs fun hi bs => k (wordOf lo hi) bs

/-- Read the displacement that Mod and R/M ask for (R92, R94); Mod is not 11. -/
def withMem (md : BitVec 2) (rm : BitVec 3) (bs : List Byte) (k : MemOp → List Byte → Decoded) : Decoded :=
  if md = 0 then
    if rm = 6 then withWord bs fun d => k (.abs d) else k (.ind (Base.ofCode rm)) bs
  else if md = 1 then withByte bs fun d => k (.ind8 (Base.ofCode rm) d)
  else withWord bs fun d => k (.ind16 (Base.ofCode rm) d)

/-- Read a ModRegR/M byte with its displacement: the Reg field and an `r/m8` operand (R92). -/
def withRm8 (bs : List Byte) (k : BitVec 3 → Rm8 → List Byte → Decoded) : Decoded :=
  withByte bs fun m bs =>
    if modOf m = 3 then k (regOf m) (.reg (Reg8.ofCode (rmOf m))) bs
    else withMem (modOf m) (rmOf m) bs fun o => k (regOf m) (.mem o)

/-- Read a ModRegR/M byte with its displacement: the Reg field and an `r/m16` operand (R92). -/
def withRm16 (bs : List Byte) (k : BitVec 3 → Rm16 → List Byte → Decoded) : Decoded :=
  withByte bs fun m bs =>
    if modOf m = 3 then k (regOf m) (.reg (Reg16.ofCode (rmOf m))) bs
    else withMem (modOf m) (rmOf m) bs fun o => k (regOf m) (.mem o)

/-! ### Instruction formats -/

/-- An encoding no row of the opcode map gives a meaning: `unused`. The pairs of `unusedPair` never come here, since `decode`
takes them first. -/
def unlisted (op : Byte) (rest : List Byte) : Decoded := withByte rest fun next rest => done (.unused op next) rest

/-- `/r` with a byte register. -/
def rm8Reg8 (k : Rm8 → Reg8 → Instr) (bs : List Byte) : Decoded :=
  withRm8 bs fun n m => done (k m (Reg8.ofCode n))

/-- `/r` with a word register. -/
def rm16Reg16 (k : Rm16 → Reg16 → Instr) (bs : List Byte) : Decoded :=
  withRm16 bs fun n m => done (k m (Reg16.ofCode n))

/-- `/r` with a word register and an operand that must be memory (LEA, LDS, LES). -/
def memReg16 (k : Reg16 → MemOp → Instr) (op : Byte) (bs : List Byte) : Decoded :=
  withRm16 bs fun n m rest =>
    match m with
    | .mem m => done (k (Reg16.ofCode n) m) rest
    | .reg _ => unlisted op bs

/-- `ib`, `cb`. -/
def imm8 (k : Byte → Instr) (bs : List Byte) : Decoded := withByte bs fun i => done (k i)

/-- `iw`, `cw`, `ow`. -/
def imm16 (k : Word → Instr) (bs : List Byte) : Decoded := withWord bs fun i => done (k i)

/-- `cd`: offset word, then selector word (R82). -/
def far (k : Word → Word → Instr) (bs : List Byte) : Decoded :=
  withWord bs fun o bs => withWord bs fun g => done (k o g)

/-- A fixed second opcode byte (R105). -/
def second (b : Byte) (i : Instr) (op : Byte) (bs : List Byte) : Decoded :=
  withByte bs fun next rest => if next = b then done i rest else unlisted op bs

/-! ### The decoder -/

/-- The opcode map (R100 to R102). -/
def decodeOp (op : Byte) (rest : List Byte) : Decoded :=
  match op.toNat with
  | 0x00 => rm8Reg8 .addRm8R8 rest
  | 0x01 => rm16Reg16 .addRm16R16 rest
  | 0x02 => rm8Reg8 (fun m r => .addR8Rm8 r m) rest
  | 0x03 => rm16Reg16 (fun m r => .addR16Rm16 r m) rest
  | 0x04 => imm8 .addAlImm8 rest
  | 0x05 => imm16 .addAxImm16 rest
  | 0x06 => done .pushEs rest
  | 0x07 => done .popEs rest
  | 0x08 => rm8Reg8 .orRm8R8 rest
  | 0x09 => rm16Reg16 .orRm16R16 rest
  | 0x0A => rm8Reg8 (fun m r => .orR8Rm8 r m) rest
  | 0x0B => rm16Reg16 (fun m r => .orR16Rm16 r m) rest
  | 0x0C => imm8 .orAlImm8 rest
  | 0x0D => imm16 .orAxImm16 rest
  | 0x0E => done .pushCs rest
  | 0x10 => rm8Reg8 .adcRm8R8 rest
  | 0x11 => rm16Reg16 .adcRm16R16 rest
  | 0x12 => rm8Reg8 (fun m r => .adcR8Rm8 r m) rest
  | 0x13 => rm16Reg16 (fun m r => .adcR16Rm16 r m) rest
  | 0x14 => imm8 .adcAlImm8 rest
  | 0x15 => imm16 .adcAxImm16 rest
  | 0x16 => done .pushSs rest
  | 0x17 => done .popSs rest
  | 0x18 => rm8Reg8 .sbbRm8R8 rest
  | 0x19 => rm16Reg16 .sbbRm16R16 rest
  | 0x1A => rm8Reg8 (fun m r => .sbbR8Rm8 r m) rest
  | 0x1B => rm16Reg16 (fun m r => .sbbR16Rm16 r m) rest
  | 0x1C => imm8 .sbbAlImm8 rest
  | 0x1D => imm16 .sbbAxImm16 rest
  | 0x1E => done .pushDs rest
  | 0x1F => done .popDs rest
  | 0x20 => rm8Reg8 .andRm8R8 rest
  | 0x21 => rm16Reg16 .andRm16R16 rest
  | 0x22 => rm8Reg8 (fun m r => .andR8Rm8 r m) rest
  | 0x23 => rm16Reg16 (fun m r => .andR16Rm16 r m) rest
  | 0x24 => imm8 .andAlImm8 rest
  | 0x25 => imm16 .andAxImm16 rest
  | 0x26 => done .segEs rest
  | 0x27 => done .daa rest
  | 0x28 => rm8Reg8 .subRm8R8 rest
  | 0x29 => rm16Reg16 .subRm16R16 rest
  | 0x2A => rm8Reg8 (fun m r => .subR8Rm8 r m) rest
  | 0x2B => rm16Reg16 (fun m r => .subR16Rm16 r m) rest
  | 0x2C => imm8 .subAlImm8 rest
  | 0x2D => imm16 .subAxImm16 rest
  | 0x2E => done .segCs rest
  | 0x2F => done .das rest
  | 0x30 => rm8Reg8 .xorRm8R8 rest
  | 0x31 => rm16Reg16 .xorRm16R16 rest
  | 0x32 => rm8Reg8 (fun m r => .xorR8Rm8 r m) rest
  | 0x33 => rm16Reg16 (fun m r => .xorR16Rm16 r m) rest
  | 0x34 => imm8 .xorAlImm8 rest
  | 0x35 => imm16 .xorAxImm16 rest
  | 0x36 => done .segSs rest
  | 0x37 => done .aaa rest
  | 0x38 => rm8Reg8 .cmpRm8R8 rest
  | 0x39 => rm16Reg16 .cmpRm16R16 rest
  | 0x3A => rm8Reg8 (fun m r => .cmpR8Rm8 r m) rest
  | 0x3B => rm16Reg16 (fun m r => .cmpR16Rm16 r m) rest
  | 0x3C => imm8 .cmpAlImm8 rest
  | 0x3D => imm16 .cmpAxImm16 rest
  | 0x3E => done .segDs rest
  | 0x3F => done .aas rest
  | 0x40 => done (.incR16 .ax) rest
  | 0x41 => done (.incR16 .cx) rest
  | 0x42 => done (.incR16 .dx) rest
  | 0x43 => done (.incR16 .bx) rest
  | 0x44 => done (.incR16 .sp) rest
  | 0x45 => done (.incR16 .bp) rest
  | 0x46 => done (.incR16 .si) rest
  | 0x47 => done (.incR16 .di) rest
  | 0x48 => done (.decR16 .ax) rest
  | 0x49 => done (.decR16 .cx) rest
  | 0x4A => done (.decR16 .dx) rest
  | 0x4B => done (.decR16 .bx) rest
  | 0x4C => done (.decR16 .sp) rest
  | 0x4D => done (.decR16 .bp) rest
  | 0x4E => done (.decR16 .si) rest
  | 0x4F => done (.decR16 .di) rest
  | 0x50 => done (.pushR16 .ax) rest
  | 0x51 => done (.pushR16 .cx) rest
  | 0x52 => done (.pushR16 .dx) rest
  | 0x53 => done (.pushR16 .bx) rest
  | 0x54 => done (.pushR16 .sp) rest
  | 0x55 => done (.pushR16 .bp) rest
  | 0x56 => done (.pushR16 .si) rest
  | 0x57 => done (.pushR16 .di) rest
  | 0x58 => done (.popR16 .ax) rest
  | 0x59 => done (.popR16 .cx) rest
  | 0x5A => done (.popR16 .dx) rest
  | 0x5B => done (.popR16 .bx) rest
  | 0x5C => done (.popR16 .sp) rest
  | 0x5D => done (.popR16 .bp) rest
  | 0x5E => done (.popR16 .si) rest
  | 0x5F => done (.popR16 .di) rest
  | 0x70 => imm8 .jo rest
  | 0x71 => imm8 .jno rest
  | 0x72 => imm8 .jb rest
  | 0x73 => imm8 .jnb rest
  | 0x74 => imm8 .je rest
  | 0x75 => imm8 .jne rest
  | 0x76 => imm8 .jbe rest
  | 0x77 => imm8 .jnbe rest
  | 0x78 => imm8 .js rest
  | 0x79 => imm8 .jns rest
  | 0x7A => imm8 .jp rest
  | 0x7B => imm8 .jnp rest
  | 0x7C => imm8 .jl rest
  | 0x7D => imm8 .jnl rest
  | 0x7E => imm8 .jle rest
  | 0x7F => imm8 .jnle rest
  | 0x80 => withRm8 rest fun n d rest' =>
    match n.toNat with
    | 0 => withByte rest' fun i r => done (.addRm8Imm8 d i) r
    | 1 => withByte rest' fun i r => done (.orRm8Imm8 d i) r
    | 2 => withByte rest' fun i r => done (.adcRm8Imm8 d i) r
    | 3 => withByte rest' fun i r => done (.sbbRm8Imm8 d i) r
    | 4 => withByte rest' fun i r => done (.andRm8Imm8 d i) r
    | 5 => withByte rest' fun i r => done (.subRm8Imm8 d i) r
    | 6 => withByte rest' fun i r => done (.xorRm8Imm8 d i) r
    | 7 => withByte rest' fun i r => done (.cmpRm8Imm8 d i) r
    | _ => unlisted op rest
  | 0x81 => withRm16 rest fun n d rest' =>
    match n.toNat with
    | 0 => withWord rest' fun i r => done (.addRm16Imm16 d i) r
    | 1 => withWord rest' fun i r => done (.orRm16Imm16 d i) r
    | 2 => withWord rest' fun i r => done (.adcRm16Imm16 d i) r
    | 3 => withWord rest' fun i r => done (.sbbRm16Imm16 d i) r
    | 4 => withWord rest' fun i r => done (.andRm16Imm16 d i) r
    | 5 => withWord rest' fun i r => done (.subRm16Imm16 d i) r
    | 6 => withWord rest' fun i r => done (.xorRm16Imm16 d i) r
    | 7 => withWord rest' fun i r => done (.cmpRm16Imm16 d i) r
    | _ => unlisted op rest
  | 0x83 => withRm16 rest fun n d rest' =>
    match n.toNat with
    | 0 => withByte rest' fun i r => done (.addRm16Imm8 d i) r
    | 2 => withByte rest' fun i r => done (.adcRm16Imm8 d i) r
    | 3 => withByte rest' fun i r => done (.sbbRm16Imm8 d i) r
    | 5 => withByte rest' fun i r => done (.subRm16Imm8 d i) r
    | 7 => withByte rest' fun i r => done (.cmpRm16Imm8 d i) r
    | _ => unlisted op rest
  | 0x84 => rm8Reg8 .testRm8R8 rest
  | 0x85 => rm16Reg16 .testRm16R16 rest
  | 0x86 => rm8Reg8 .xchgRm8R8 rest
  | 0x87 => rm16Reg16 .xchgRm16R16 rest
  | 0x88 => rm8Reg8 .movRm8R8 rest
  | 0x89 => rm16Reg16 .movRm16R16 rest
  | 0x8A => rm8Reg8 (fun m r => .movR8Rm8 r m) rest
  | 0x8B => rm16Reg16 (fun m r => .movR16Rm16 r m) rest
  | 0x8C => withRm16 rest fun n d rest' =>
    match n.toNat with
    | 0 => done (.movRm16Sreg d .es) rest'
    | 1 => done (.movRm16Sreg d .cs) rest'
    | 2 => done (.movRm16Sreg d .ss) rest'
    | 3 => done (.movRm16Sreg d .ds) rest'
    | _ => unlisted op rest
  | 0x8D => memReg16 .lea op rest
  | 0x8E => withRm16 rest fun n m rest' =>
    match n.toNat with
    | 0 => done (.movEsRm16 m) rest'
    | 2 => done (.movSsRm16 m) rest'
    | 3 => done (.movDsRm16 m) rest'
    | _ => unlisted op rest
  | 0x8F => withRm16 rest fun n d rest' => if n = 0 then done (.popRm16 d) rest' else unlisted op rest
  | 0x90 => done .nop rest
  | 0x91 => done .xchgAxCx rest
  | 0x92 => done .xchgAxDx rest
  | 0x93 => done .xchgAxBx rest
  | 0x94 => done .xchgAxSp rest
  | 0x95 => done .xchgAxBp rest
  | 0x96 => done .xchgAxSi rest
  | 0x97 => done .xchgAxDi rest
  | 0x98 => done .cbw rest
  | 0x99 => done .cwd rest
  | 0x9A => far .callFar rest
  | 0x9B => done .wait rest
  | 0x9C => done .pushf rest
  | 0x9D => done .popf rest
  | 0x9E => done .sahf rest
  | 0x9F => done .lahf rest
  | 0xA0 => imm16 .movAlM8 rest
  | 0xA1 => imm16 .movAxM16 rest
  | 0xA2 => imm16 .movM8Al rest
  | 0xA3 => imm16 .movM16Ax rest
  | 0xA4 => done .movsb rest
  | 0xA5 => done .movsw rest
  | 0xA6 => done .cmpsb rest
  | 0xA7 => done .cmpsw rest
  | 0xA8 => imm8 .testAlImm8 rest
  | 0xA9 => imm16 .testAxImm16 rest
  | 0xAA => done .stosb rest
  | 0xAB => done .stosw rest
  | 0xAC => done .lodsb rest
  | 0xAD => done .lodsw rest
  | 0xAE => done .scasb rest
  | 0xAF => done .scasw rest
  | 0xB0 => imm8 (.movR8Imm8 .al) rest
  | 0xB1 => imm8 (.movR8Imm8 .cl) rest
  | 0xB2 => imm8 (.movR8Imm8 .dl) rest
  | 0xB3 => imm8 (.movR8Imm8 .bl) rest
  | 0xB4 => imm8 (.movR8Imm8 .ah) rest
  | 0xB5 => imm8 (.movR8Imm8 .ch) rest
  | 0xB6 => imm8 (.movR8Imm8 .dh) rest
  | 0xB7 => imm8 (.movR8Imm8 .bh) rest
  | 0xB8 => imm16 (.movR16Imm16 .ax) rest
  | 0xB9 => imm16 (.movR16Imm16 .cx) rest
  | 0xBA => imm16 (.movR16Imm16 .dx) rest
  | 0xBB => imm16 (.movR16Imm16 .bx) rest
  | 0xBC => imm16 (.movR16Imm16 .sp) rest
  | 0xBD => imm16 (.movR16Imm16 .bp) rest
  | 0xBE => imm16 (.movR16Imm16 .si) rest
  | 0xBF => imm16 (.movR16Imm16 .di) rest
  | 0xC2 => imm16 .retNearImm16 rest
  | 0xC3 => done .retNear rest
  | 0xC4 => memReg16 .les op rest
  | 0xC5 => memReg16 .lds op rest
  | 0xC6 => withRm8 rest fun n d rest' => if n = 0 then withByte rest' fun i r => done (.movRm8Imm8 d i) r else unlisted op rest
  | 0xC7 => withRm16 rest fun n d rest' => if n = 0 then withWord rest' fun i r => done (.movRm16Imm16 d i) r else unlisted op rest
  | 0xCA => imm16 .retFarImm16 rest
  | 0xCB => done .retFar rest
  | 0xCC => done .int3 rest
  | 0xCD => imm8 .int rest
  | 0xCE => done .into rest
  | 0xCF => done .iret rest
  | 0xD0 => withRm8 rest fun n d rest' =>
    match n.toNat with
    | 0 => done (.rolRm8One d) rest'
    | 1 => done (.rorRm8One d) rest'
    | 2 => done (.rclRm8One d) rest'
    | 3 => done (.rcrRm8One d) rest'
    | 4 => done (.salRm8One d) rest'
    | 5 => done (.shrRm8One d) rest'
    | 7 => done (.sarRm8One d) rest'
    | _ => unlisted op rest
  | 0xD1 => withRm16 rest fun n d rest' =>
    match n.toNat with
    | 0 => done (.rolRm16One d) rest'
    | 1 => done (.rorRm16One d) rest'
    | 2 => done (.rclRm16One d) rest'
    | 3 => done (.rcrRm16One d) rest'
    | 4 => done (.salRm16One d) rest'
    | 5 => done (.shrRm16One d) rest'
    | 7 => done (.sarRm16One d) rest'
    | _ => unlisted op rest
  | 0xD2 => withRm8 rest fun n d rest' =>
    match n.toNat with
    | 0 => done (.rolRm8Cl d) rest'
    | 1 => done (.rorRm8Cl d) rest'
    | 2 => done (.rclRm8Cl d) rest'
    | 3 => done (.rcrRm8Cl d) rest'
    | 4 => done (.salRm8Cl d) rest'
    | 5 => done (.shrRm8Cl d) rest'
    | 7 => done (.sarRm8Cl d) rest'
    | _ => unlisted op rest
  | 0xD3 => withRm16 rest fun n d rest' =>
    match n.toNat with
    | 0 => done (.rolRm16Cl d) rest'
    | 1 => done (.rorRm16Cl d) rest'
    | 2 => done (.rclRm16Cl d) rest'
    | 3 => done (.rcrRm16Cl d) rest'
    | 4 => done (.salRm16Cl d) rest'
    | 5 => done (.shrRm16Cl d) rest'
    | 7 => done (.sarRm16Cl d) rest'
    | _ => unlisted op rest
  | 0xD4 => second 0x0A .aam op rest
  | 0xD5 => second 0x0A .aad op rest
  | 0xD7 => done .xlatb rest
  | 0xD8 => withRm16 rest fun n m rest' => done (.esc (0#3 ++ n) m) rest'
  | 0xD9 => withRm16 rest fun n m rest' => done (.esc (1#3 ++ n) m) rest'
  | 0xDA => withRm16 rest fun n m rest' => done (.esc (2#3 ++ n) m) rest'
  | 0xDB => withRm16 rest fun n m rest' => done (.esc (3#3 ++ n) m) rest'
  | 0xDC => withRm16 rest fun n m rest' => done (.esc (4#3 ++ n) m) rest'
  | 0xDD => withRm16 rest fun n m rest' => done (.esc (5#3 ++ n) m) rest'
  | 0xDE => withRm16 rest fun n m rest' => done (.esc (6#3 ++ n) m) rest'
  | 0xDF => withRm16 rest fun n m rest' => done (.esc (7#3 ++ n) m) rest'
  | 0xE0 => imm8 .loopne rest
  | 0xE1 => imm8 .loope rest
  | 0xE2 => imm8 .loop rest
  | 0xE3 => imm8 .jcxz rest
  | 0xE4 => imm8 .inAlImm8 rest
  | 0xE5 => imm8 .inAxImm8 rest
  | 0xE6 => imm8 .outImm8Al rest
  | 0xE7 => imm8 .outImm8Ax rest
  | 0xE8 => imm16 .callRel16 rest
  | 0xE9 => imm16 .jmpRel16 rest
  | 0xEA => far .jmpFar rest
  | 0xEB => imm8 .jmpRel8 rest
  | 0xEC => done .inAlDx rest
  | 0xED => done .inAxDx rest
  | 0xEE => done .outDxAl rest
  | 0xEF => done .outDxAx rest
  | 0xF0 => done .lock rest
  | 0xF2 => done .repne rest
  | 0xF3 => done .rep rest
  | 0xF4 => done .hlt rest
  | 0xF5 => done .cmc rest
  | 0xF6 => withRm8 rest fun n d rest' =>
    match n.toNat with
    | 0 => withByte rest' fun i r => done (.testRm8Imm8 d i) r
    | 2 => done (.notRm8 d) rest'
    | 3 => done (.negRm8 d) rest'
    | 4 => done (.mulRm8 d) rest'
    | 5 => done (.imulRm8 d) rest'
    | 6 => done (.divRm8 d) rest'
    | 7 => done (.idivRm8 d) rest'
    | _ => unlisted op rest
  | 0xF7 => withRm16 rest fun n d rest' =>
    match n.toNat with
    | 0 => withWord rest' fun i r => done (.testRm16Imm16 d i) r
    | 2 => done (.notRm16 d) rest'
    | 3 => done (.negRm16 d) rest'
    | 4 => done (.mulRm16 d) rest'
    | 5 => done (.imulRm16 d) rest'
    | 6 => done (.divRm16 d) rest'
    | 7 => done (.idivRm16 d) rest'
    | _ => unlisted op rest
  | 0xF8 => done .clc rest
  | 0xF9 => done .stc rest
  | 0xFA => done .cli rest
  | 0xFB => done .sti rest
  | 0xFC => done .cld rest
  | 0xFD => done .std rest
  | 0xFE => withRm8 rest fun n d rest' =>
    match n.toNat with
    | 0 => done (.incRm8 d) rest'
    | 1 => done (.decRm8 d) rest'
    | _ => unlisted op rest
  | 0xFF => withRm16 rest fun n d rest' =>
    match n.toNat, d with
    | 0, _ => done (.incRm16 d) rest'
    | 1, _ => done (.decRm16 d) rest'
    | 2, _ => done (.callRm16 d) rest'
    | 3, .mem m => done (.callM m) rest'
    | 4, _ => done (.jmpRm16 d) rest'
    | 5, .mem m => done (.jmpM m) rest'
    | 6, _ => done (.pushRm16 d) rest'
    | _, _ => unlisted op rest
  | _ => unlisted op rest

/-- The instruction at the head of the bytes (R99), prefix bytes being instructions of their own. The encodings of R103
are taken first, whatever follows them. -/
def decode : List Byte → Decoded
  | [] => .error .truncated
  | op :: rest =>
    match rest with
    | [] => decodeOp op []
    | next :: rest' => if unusedPair op next then done (.unused op next) rest' else decodeOp op rest

/-! ### The encoder -/

/-- A 16-bit field, low byte first (R51). -/
def encWord (w : Word) : List Byte := [loByte w, hiByte w]

/-- The opcode of a `+rb` or `+rw` form (R87). -/
def opReg (op : Byte) (r : BitVec 3) : Byte := op ||| r.zeroExtend 8

/-- ModRegR/M byte and displacement of a memory operand (R88, R94). -/
def encMem (reg : BitVec 3) : MemOp → List Byte
  | .abs d => modrm 0 reg 6 :: encWord d
  | .ind b => [modrm 0 reg b.code]
  | .ind8 b d => [modrm 1 reg b.code, d]
  | .ind16 b d => modrm 2 reg b.code :: encWord d

/-- ModRegR/M byte and displacement of an `r/m8` operand. -/
def encRm8 (reg : BitVec 3) : Rm8 → List Byte
  | .reg r => [modrm 3 reg r.code]
  | .mem m => encMem reg m

/-- ModRegR/M byte and displacement of an `r/m16` operand. -/
def encRm16 (reg : BitVec 3) : Rm16 → List Byte
  | .reg r => [modrm 3 reg r.code]
  | .mem m => encMem reg m

/-- The bytes of a well-formed instruction, from the same map (R100 to R102). -/
def encode : Instr → List Byte
  | .addRm8R8 d r => 0x00 :: encRm8 r.code d
  | .addRm16R16 d r => 0x01 :: encRm16 r.code d
  | .addR8Rm8 r m => 0x02 :: encRm8 r.code m
  | .addR16Rm16 r m => 0x03 :: encRm16 r.code m
  | .addAlImm8 i => [0x04, i]
  | .addAxImm16 i => 0x05 :: encWord i
  | .addRm8Imm8 d i => 0x80 :: encRm8 0 d ++ [i]
  | .addRm16Imm16 d i => 0x81 :: encRm16 0 d ++ encWord i
  | .addRm16Imm8 d i => 0x83 :: encRm16 0 d ++ [i]
  | .orRm8R8 d r => 0x08 :: encRm8 r.code d
  | .orRm16R16 d r => 0x09 :: encRm16 r.code d
  | .orR8Rm8 r m => 0x0A :: encRm8 r.code m
  | .orR16Rm16 r m => 0x0B :: encRm16 r.code m
  | .orAlImm8 i => [0x0C, i]
  | .orAxImm16 i => 0x0D :: encWord i
  | .orRm8Imm8 d i => 0x80 :: encRm8 1 d ++ [i]
  | .orRm16Imm16 d i => 0x81 :: encRm16 1 d ++ encWord i
  | .adcRm8R8 d r => 0x10 :: encRm8 r.code d
  | .adcRm16R16 d r => 0x11 :: encRm16 r.code d
  | .adcR8Rm8 r m => 0x12 :: encRm8 r.code m
  | .adcR16Rm16 r m => 0x13 :: encRm16 r.code m
  | .adcAlImm8 i => [0x14, i]
  | .adcAxImm16 i => 0x15 :: encWord i
  | .adcRm8Imm8 d i => 0x80 :: encRm8 2 d ++ [i]
  | .adcRm16Imm16 d i => 0x81 :: encRm16 2 d ++ encWord i
  | .adcRm16Imm8 d i => 0x83 :: encRm16 2 d ++ [i]
  | .sbbRm8R8 d r => 0x18 :: encRm8 r.code d
  | .sbbRm16R16 d r => 0x19 :: encRm16 r.code d
  | .sbbR8Rm8 r m => 0x1A :: encRm8 r.code m
  | .sbbR16Rm16 r m => 0x1B :: encRm16 r.code m
  | .sbbAlImm8 i => [0x1C, i]
  | .sbbAxImm16 i => 0x1D :: encWord i
  | .sbbRm8Imm8 d i => 0x80 :: encRm8 3 d ++ [i]
  | .sbbRm16Imm16 d i => 0x81 :: encRm16 3 d ++ encWord i
  | .sbbRm16Imm8 d i => 0x83 :: encRm16 3 d ++ [i]
  | .andRm8R8 d r => 0x20 :: encRm8 r.code d
  | .andRm16R16 d r => 0x21 :: encRm16 r.code d
  | .andR8Rm8 r m => 0x22 :: encRm8 r.code m
  | .andR16Rm16 r m => 0x23 :: encRm16 r.code m
  | .andAlImm8 i => [0x24, i]
  | .andAxImm16 i => 0x25 :: encWord i
  | .andRm8Imm8 d i => 0x80 :: encRm8 4 d ++ [i]
  | .andRm16Imm16 d i => 0x81 :: encRm16 4 d ++ encWord i
  | .subRm8R8 d r => 0x28 :: encRm8 r.code d
  | .subRm16R16 d r => 0x29 :: encRm16 r.code d
  | .subR8Rm8 r m => 0x2A :: encRm8 r.code m
  | .subR16Rm16 r m => 0x2B :: encRm16 r.code m
  | .subAlImm8 i => [0x2C, i]
  | .subAxImm16 i => 0x2D :: encWord i
  | .subRm8Imm8 d i => 0x80 :: encRm8 5 d ++ [i]
  | .subRm16Imm16 d i => 0x81 :: encRm16 5 d ++ encWord i
  | .subRm16Imm8 d i => 0x83 :: encRm16 5 d ++ [i]
  | .xorRm8R8 d r => 0x30 :: encRm8 r.code d
  | .xorRm16R16 d r => 0x31 :: encRm16 r.code d
  | .xorR8Rm8 r m => 0x32 :: encRm8 r.code m
  | .xorR16Rm16 r m => 0x33 :: encRm16 r.code m
  | .xorAlImm8 i => [0x34, i]
  | .xorAxImm16 i => 0x35 :: encWord i
  | .xorRm8Imm8 d i => 0x80 :: encRm8 6 d ++ [i]
  | .xorRm16Imm16 d i => 0x81 :: encRm16 6 d ++ encWord i
  | .cmpRm8R8 d r => 0x38 :: encRm8 r.code d
  | .cmpRm16R16 d r => 0x39 :: encRm16 r.code d
  | .cmpR8Rm8 r m => 0x3A :: encRm8 r.code m
  | .cmpR16Rm16 r m => 0x3B :: encRm16 r.code m
  | .cmpAlImm8 i => [0x3C, i]
  | .cmpAxImm16 i => 0x3D :: encWord i
  | .cmpRm8Imm8 d i => 0x80 :: encRm8 7 d ++ [i]
  | .cmpRm16Imm16 d i => 0x81 :: encRm16 7 d ++ encWord i
  | .cmpRm16Imm8 d i => 0x83 :: encRm16 7 d ++ [i]
  | .pushEs => [0x06]
  | .pushCs => [0x0E]
  | .pushSs => [0x16]
  | .pushDs => [0x1E]
  | .pushR16 r => [opReg 0x50 r.code]
  | .pushRm16 m => 0xFF :: encRm16 6 m
  | .popEs => [0x07]
  | .popSs => [0x17]
  | .popDs => [0x1F]
  | .popR16 r => [opReg 0x58 r.code]
  | .popRm16 d => 0x8F :: encRm16 0 d
  | .segEs => [0x26]
  | .segCs => [0x2E]
  | .segSs => [0x36]
  | .segDs => [0x3E]
  | .lock => [0xF0]
  | .repne => [0xF2]
  | .rep => [0xF3]
  | .daa => [0x27]
  | .das => [0x2F]
  | .aaa => [0x37]
  | .aas => [0x3F]
  | .aam => [0xD4, 0x0A]
  | .aad => [0xD5, 0x0A]
  | .incR16 r => [opReg 0x40 r.code]
  | .incRm8 d => 0xFE :: encRm8 0 d
  | .incRm16 d => 0xFF :: encRm16 0 d
  | .decR16 r => [opReg 0x48 r.code]
  | .decRm8 d => 0xFE :: encRm8 1 d
  | .decRm16 d => 0xFF :: encRm16 1 d
  | .jo d => [0x70, d]
  | .jno d => [0x71, d]
  | .jb d => [0x72, d]
  | .jnb d => [0x73, d]
  | .je d => [0x74, d]
  | .jne d => [0x75, d]
  | .jbe d => [0x76, d]
  | .jnbe d => [0x77, d]
  | .js d => [0x78, d]
  | .jns d => [0x79, d]
  | .jp d => [0x7A, d]
  | .jnp d => [0x7B, d]
  | .jl d => [0x7C, d]
  | .jnl d => [0x7D, d]
  | .jle d => [0x7E, d]
  | .jnle d => [0x7F, d]
  | .testRm8R8 a r => 0x84 :: encRm8 r.code a
  | .testRm16R16 a r => 0x85 :: encRm16 r.code a
  | .testAlImm8 i => [0xA8, i]
  | .testAxImm16 i => 0xA9 :: encWord i
  | .testRm8Imm8 a i => 0xF6 :: encRm8 0 a ++ [i]
  | .testRm16Imm16 a i => 0xF7 :: encRm16 0 a ++ encWord i
  | .xchgRm8R8 m r => 0x86 :: encRm8 r.code m
  | .xchgRm16R16 m r => 0x87 :: encRm16 r.code m
  | .xchgAxCx => [0x91]
  | .xchgAxDx => [0x92]
  | .xchgAxBx => [0x93]
  | .xchgAxSp => [0x94]
  | .xchgAxBp => [0x95]
  | .xchgAxSi => [0x96]
  | .xchgAxDi => [0x97]
  | .movRm8R8 d r => 0x88 :: encRm8 r.code d
  | .movRm16R16 d r => 0x89 :: encRm16 r.code d
  | .movR8Rm8 r m => 0x8A :: encRm8 r.code m
  | .movR16Rm16 r m => 0x8B :: encRm16 r.code m
  | .movRm16Sreg d r => 0x8C :: encRm16 r.regField d
  | .movEsRm16 m => 0x8E :: encRm16 0 m
  | .movSsRm16 m => 0x8E :: encRm16 2 m
  | .movDsRm16 m => 0x8E :: encRm16 3 m
  | .movAlM8 o => 0xA0 :: encWord o
  | .movAxM16 o => 0xA1 :: encWord o
  | .movM8Al o => 0xA2 :: encWord o
  | .movM16Ax o => 0xA3 :: encWord o
  | .movR8Imm8 r i => [opReg 0xB0 r.code, i]
  | .movR16Imm16 r i => opReg 0xB8 r.code :: encWord i
  | .movRm8Imm8 d i => 0xC6 :: encRm8 0 d ++ [i]
  | .movRm16Imm16 d i => 0xC7 :: encRm16 0 d ++ encWord i
  | .lea r m => 0x8D :: encMem r.code m
  | .les r m => 0xC4 :: encMem r.code m
  | .lds r m => 0xC5 :: encMem r.code m
  | .nop => [0x90]
  | .cbw => [0x98]
  | .cwd => [0x99]
  | .wait => [0x9B]
  | .pushf => [0x9C]
  | .popf => [0x9D]
  | .sahf => [0x9E]
  | .lahf => [0x9F]
  | .movsb => [0xA4]
  | .movsw => [0xA5]
  | .cmpsb => [0xA6]
  | .cmpsw => [0xA7]
  | .stosb => [0xAA]
  | .stosw => [0xAB]
  | .lodsb => [0xAC]
  | .lodsw => [0xAD]
  | .scasb => [0xAE]
  | .scasw => [0xAF]
  | .retNearImm16 i => 0xC2 :: encWord i
  | .retNear => [0xC3]
  | .retFarImm16 i => 0xCA :: encWord i
  | .retFar => [0xCB]
  | .int3 => [0xCC]
  | .int n => [0xCD, n]
  | .into => [0xCE]
  | .iret => [0xCF]
  | .rolRm8One d => 0xD0 :: encRm8 0 d
  | .rolRm16One d => 0xD1 :: encRm16 0 d
  | .rolRm8Cl d => 0xD2 :: encRm8 0 d
  | .rolRm16Cl d => 0xD3 :: encRm16 0 d
  | .rorRm8One d => 0xD0 :: encRm8 1 d
  | .rorRm16One d => 0xD1 :: encRm16 1 d
  | .rorRm8Cl d => 0xD2 :: encRm8 1 d
  | .rorRm16Cl d => 0xD3 :: encRm16 1 d
  | .rclRm8One d => 0xD0 :: encRm8 2 d
  | .rclRm16One d => 0xD1 :: encRm16 2 d
  | .rclRm8Cl d => 0xD2 :: encRm8 2 d
  | .rclRm16Cl d => 0xD3 :: encRm16 2 d
  | .rcrRm8One d => 0xD0 :: encRm8 3 d
  | .rcrRm16One d => 0xD1 :: encRm16 3 d
  | .rcrRm8Cl d => 0xD2 :: encRm8 3 d
  | .rcrRm16Cl d => 0xD3 :: encRm16 3 d
  | .salRm8One d => 0xD0 :: encRm8 4 d
  | .salRm16One d => 0xD1 :: encRm16 4 d
  | .salRm8Cl d => 0xD2 :: encRm8 4 d
  | .salRm16Cl d => 0xD3 :: encRm16 4 d
  | .shrRm8One d => 0xD0 :: encRm8 5 d
  | .shrRm16One d => 0xD1 :: encRm16 5 d
  | .shrRm8Cl d => 0xD2 :: encRm8 5 d
  | .shrRm16Cl d => 0xD3 :: encRm16 5 d
  | .sarRm8One d => 0xD0 :: encRm8 7 d
  | .sarRm16One d => 0xD1 :: encRm16 7 d
  | .sarRm8Cl d => 0xD2 :: encRm8 7 d
  | .sarRm16Cl d => 0xD3 :: encRm16 7 d
  | .xlatb => [0xD7]
  | .esc op6 m => (0b11011#5 ++ op6.extractLsb' 3 3) :: encRm16 (op6.extractLsb' 0 3) m
  | .loopne d => [0xE0, d]
  | .loope d => [0xE1, d]
  | .loop d => [0xE2, d]
  | .jcxz d => [0xE3, d]
  | .inAlImm8 p => [0xE4, p]
  | .inAxImm8 p => [0xE5, p]
  | .outImm8Al p => [0xE6, p]
  | .outImm8Ax p => [0xE7, p]
  | .inAlDx => [0xEC]
  | .inAxDx => [0xED]
  | .outDxAl => [0xEE]
  | .outDxAx => [0xEF]
  | .callRel16 d => 0xE8 :: encWord d
  | .callFar o g => 0x9A :: encWord o ++ encWord g
  | .callRm16 m => 0xFF :: encRm16 2 m
  | .callM m => 0xFF :: encMem 3 m
  | .jmpRel8 d => [0xEB, d]
  | .jmpRel16 d => 0xE9 :: encWord d
  | .jmpFar o g => 0xEA :: encWord o ++ encWord g
  | .jmpRm16 m => 0xFF :: encRm16 4 m
  | .jmpM m => 0xFF :: encMem 5 m
  | .hlt => [0xF4]
  | .cmc => [0xF5]
  | .unused op next => [op, next]
  | .notRm8 d => 0xF6 :: encRm8 2 d
  | .notRm16 d => 0xF7 :: encRm16 2 d
  | .negRm8 d => 0xF6 :: encRm8 3 d
  | .negRm16 d => 0xF7 :: encRm16 3 d
  | .mulRm8 m => 0xF6 :: encRm8 4 m
  | .mulRm16 m => 0xF7 :: encRm16 4 m
  | .imulRm8 m => 0xF6 :: encRm8 5 m
  | .imulRm16 m => 0xF7 :: encRm16 5 m
  | .divRm8 m => 0xF6 :: encRm8 6 m
  | .divRm16 m => 0xF7 :: encRm16 6 m
  | .idivRm8 m => 0xF6 :: encRm8 7 m
  | .idivRm16 m => 0xF7 :: encRm16 7 m
  | .clc => [0xF8]
  | .stc => [0xF9]
  | .cli => [0xFA]
  | .sti => [0xFB]
  | .cld => [0xFC]
  | .std => [0xFD]

/-! ### The opcode table's numbering -/

/-- The bytes of a table word: each 16-bit unit is (first byte) * 256 + (the byte that follows it), as the head of
30_encoding numbers its `match` and `mask`; the rest of the longest instruction, nine bytes with its prefixes (R80), is
zeros. notes/assumptions/10.md. -/
def tableBytes (nbits w : Nat) : List Byte :=
  let n := (nbits + 7) / 8
  let byteAt (k : Nat) : Byte :=
    if n ≤ k then 0
    else if n = 1 then BitVec.ofNat 8 w
    else if k % 2 = 0 then BitVec.ofNat 8 (w >>> (8 * k + 8)) else BitVec.ofNat 8 (w >>> (8 * k - 8))
  [byteAt 0, byteAt 1, byteAt 2, byteAt 3, byteAt 4, byteAt 5, byteAt 6, byteAt 7, byteAt 8]

/-- The instruction the decoder reads from a table word. -/
def decodeTableWord (nbits w : Nat) : Option Instr :=
  match decode (tableBytes nbits w) with
  | .ok (i, _) => some i
  | .error _ => none

end Sys2Proof
end

