-- ==== Sys2Proof/Machine/Fetch.lean ====
section
/-! DEFINITION. Fetching an instruction, and fetching ahead (spec 10_state R16, R17, 30_encoding R99, 20_memory R70, 70_reset
R378). -/

namespace Sys2Proof.Machine

/-- The bytes of memory from CS:off on, at most `n`, offsets modulo 2^16 (R17, D37), up to the first address that `MemMap` does
not declare. -/
def State.window (s : State) : Nat → Word → List Byte
  | 0, _ => []
  | n + 1, off =>
    if s.declares (phys s.segs.cs off) then s.mem.read (phys s.segs.cs off) :: s.window n (off + 1) else []

/-- The bytes of memory that follow those already fetched ahead, until `n` bytes from CS:IP on are reached (R17, R70). -/
def State.beyond (s : State) (n : Nat) : List Byte :=
  s.window (n - s.ahead.length) (s.ip + BitVec.ofNat 16 s.ahead.length)

/-- Past `n` bytes of the instruction (R17). -/
def State.past (s : State) (n : Nat) : State := { s with ip := s.ip + BitVec.ofNat 16 n, ahead := s.ahead.drop n }

/-- The longest instruction without its prefixes: opcode, ModRegR/M, displacement, immediate (R80). -/
def maxLength : Nat := 6

/-- The instruction at CS:IP, and the state past its bytes. Bytes fetched ahead come first, the others are read from memory now
(R70). It faults only if a byte that the instruction has is undeclared (R73, notes/assumptions/24.md). -/
def State.fetch (s : State) : Res (Instr × State) :=
  let w := s.ahead ++ s.beyond maxLength
  match decode w with
  | .ok (i, rest) => .ok (i, s.past (w.length - rest.length))
  | .error .truncated => .error (.undeclaredAddress (phys s.segs.cs (s.ip + BitVec.ofNat 16 w.length)))

/-- Fetching ahead, before the instruction executes: any number of bytes up to `PREFETCH_DEPTH` past it have been read, a free
value; none when the depth is 0 (R70, D3; notes/assumptions/12.md). -/
def State.fetchAhead (s : State) : State :=
  match s.cfg.prefetchDepth with
  | 0 => s
  | d + 1 => { s.drew 1 with ahead := s.ahead ++ s.beyond ((s.freeWord 0).toNat % (d + 2)) }

end Sys2Proof.Machine
end

