-- ==== Sys2Proof/Machine/Run.lean ====
section
/-! DEFINITION. One instruction: its start, its prefixes, its meaning, its boundary (spec 30_encoding R86, R99, 46_processor_control
R288, 47_prefixes R309). -/

namespace Sys2Proof.Machine

/-- The start of an instruction: its first offset, TF as it is now (R35), no prefix. -/
def State.begin (s : State) : State :=
  { s with instrStart := s.ip, tfAtStart := s.flags.TF, pfx := Prefixes.none, pause := .none }

/-- Fetch and run: each prefix records itself, then the instruction runs if its prefixes may precede it. At most `n` fetches: three
prefixes and the opcode (R80, R86); a fourth prefix repeats a group and is refused before the count ends. -/
def runInstr : Nat → State → Host.Outcome State Fault Refusal
  | 0, _ => .refused .prefixGroupRepeated
  | n + 1, s =>
    match s.fetch with
    | .error f => .fault f
    | .ok (i, s) =>
      if i.isPrefix then
        match exec i s with
        | .next t => runInstr n t
        | .fault f => .fault f
        | .refused r => .refused r
      else
        match prefixRefusal s.pfx i with
        | some r => .refused r
        | none => exec i s.fetchAhead

/-- The boundary after an instruction that left a next state. -/
def atBoundary (trace : Bool) : Host.Outcome State Fault Refusal → Host.Outcome State Fault Refusal
  | .next s => finish (s.boundary trace)
  | .fault f => .fault f
  | .refused r => .refused r

/-- One step: while halted the inputs are examined and nothing runs (R288; notes/assumptions/27.md); a repetition that goes on runs its next
iteration (R309), and a WAIT that waits tests again (R289), neither fetched again; else the instruction at CS:IP runs. -/
def runStep (s : State) : Host.Outcome State Fault Refusal :=
  if s.halted then atBoundary false (.next s)
  else
    match s.pause with
    | .repeating i => atBoundary true (exec i { s with pause := .none })
    | .waiting next => atBoundary true (exec .wait { s with ip := next, pause := .none })
    | .none => atBoundary true (runInstr 4 s.begin)

end Sys2Proof.Machine
end

