-- ==== Sys2Proof/Machine/Step.lean ====
section
/-! DEFINITION. The step, and the placing of one instruction where the step fetches. -/

namespace Sys2Proof.Machine

/-- One step of the machine: one instruction with its prefixes (or one iteration of an interruptible repetition, or one step of the
halt), and the boundary that follows it. -/
def step (s : State) : Host.Outcome State Fault Refusal := runStep s

/-- The bytes of an opcode-table word at CS:IP, the machine about to fetch there (notes/assumptions/9.md). -/
def State.withFetchWord (s : State) (nbits w : Nat) : State :=
  { s with
    halted := false
    pause := .none
    ahead := []
    mem := (tableBytes nbits w).zipIdx.foldl
      (fun m b => m.write (phys s.segs.cs (s.ip + BitVec.ofNat 16 b.2)) b.1) s.mem }

end Sys2Proof.Machine
end

