-- ==== Sys2Proof/Safety.lean ====
section
/-! DEFINITION. The terms in which claims are made: what memory holds, where a word lands, the results and flags of the spec's
formulas, what each instruction may change, and what a good state is. Nothing of the machine is defined here. -/

namespace Sys2Proof.Machine

/-! ## Good states -/

/-- Memory has its canonical form (R50, notes/assumptions/2.md). -/
def State.memOk (s : State) : Prop := s.mem.wf = true

/-- RAM is at the physical address (R73). -/
def State.isRam (s : State) (a : Nat) : Prop := kindAt s.cfg.memMap a = some .ram

/-- `MemMap` declares every address of R50, so that no access can stop the machine. -/
def State.fullyMapped (s : State) : Prop := ∀ a, a < 2 ^ 20 → s.declares a = true

/-- An instruction is about to be fetched: the machine is not halted, no repetition goes on, no WAIT waits. -/
def State.atFetch (s : State) : Prop := s.halted = false ∧ s.pause = .none

/-! ## What memory holds, and what a store leaves -/

/-- The byte at seg:off (R55). -/
def State.byteAt (s : State) (seg off : Word) : Byte := s.mem.read (phys seg off)

/-- The word at seg:off, low byte first (R51, R56). -/
def State.wordAt (s : State) (seg off : Word) : Word := wordOf (s.byteAt seg off) (s.mem.read (s.highAddr seg off))

/-- The byte at seg:off is declared. -/
def State.hasByte (s : State) (seg off : Word) : Prop := s.declares (phys seg off) = true

/-- Both bytes of the word at seg:off are declared. -/
def State.hasWord (s : State) (seg off : Word) : Prop :=
  s.declares (phys seg off) = true ∧ s.declares (s.highAddr seg off) = true

/-- The state after the byte `v` is stored at seg:off. -/
def State.storeByte (s : State) (seg off : Word) (v : Byte) : State := s.put8 (phys seg off) v

/-- The state after the word `v` is stored at seg:off, low byte first. -/
def State.storeWord (s : State) (seg off : Word) (v : Word) : State :=
  (s.put8 (phys seg off) (loByte v)).put8 (s.highAddr seg off) (hiByte v)

/-- An `r/m8` operand can be read and written: a register, or a declared byte (R96). -/
def State.hasRm8 (s : State) : Rm8 → Prop
  | .reg _ => True
  | .mem m => s.hasByte (s.segOf m) (s.ea m)

/-- An `r/m16` operand can be read and written: a register, or a declared word (R96). -/
def State.hasRm16 (s : State) : Rm16 → Prop
  | .reg _ => True
  | .mem m => s.hasWord (s.segOf m) (s.ea m)

/-- The value of an `r/m8` operand (R96). -/
def State.rm8 (s : State) : Rm8 → Byte
  | .reg r => s.reg8 r
  | .mem m => s.byteAt (s.segOf m) (s.ea m)

/-- The value of an `r/m16` operand (R96). -/
def State.rm16 (s : State) : Rm16 → Word
  | .reg r => s.reg16 r
  | .mem m => s.wordAt (s.segOf m) (s.ea m)

/-- The state after `v` is written to an `r/m8` operand (R96). -/
def State.putRm8 (s : State) (d : Rm8) (v : Byte) : State :=
  match d with
  | .reg r => s.setReg8 r v
  | .mem m => s.storeByte (s.segOf m) (s.ea m) v

/-- The state after `v` is written to an `r/m16` operand (R96). -/
def State.putRm16 (s : State) (d : Rm16) (v : Word) : State :=
  match d with
  | .reg r => s.setReg16 r v
  | .mem m => s.storeWord (s.segOf m) (s.ea m) v

/-- A far pointer operand can be read (R71). -/
def State.hasFar (s : State) (m : MemOp) : Prop :=
  s.hasWord (s.segOf m) (s.ea m) ∧ s.hasWord (s.segOf m) (s.ea m + 2)

/-- The offset word of a far pointer operand (R71). -/
def State.farOff (s : State) (m : MemOp) : Word := s.wordAt (s.segOf m) (s.ea m)

/-- The selector word of a far pointer operand (R71). -/
def State.farSel (s : State) (m : MemOp) : Word := s.wordAt (s.segOf m) (s.ea m + 2)

/-! ## The stack -/

/-- The `k`-th word from the top of the stack (R61). -/
def State.stackWord (s : State) (k : Nat) : Word := s.wordAt s.segs.ss (s.regs.sp + 2 * BitVec.ofNat 16 k)

/-- The top `n` words of the stack are declared. -/
def State.canPop (s : State) (n : Nat) : Prop :=
  ∀ k, k < n → s.hasWord s.segs.ss (s.regs.sp + 2 * BitVec.ofNat 16 k)

/-- The next `n` words below the stack's top are declared. -/
def State.canPush (s : State) (n : Nat) : Prop :=
  ∀ k, k < n → s.hasWord s.segs.ss (s.regs.sp - 2 * BitVec.ofNat 16 (k + 1))

/-- The state after the words are pushed, first to last (R62): SP is decremented by two, then the word is stored at SS:SP. -/
def State.pushed (s : State) : List Word → State
  | [] => s
  | v :: vs => State.pushed ((s.setReg16 .sp (s.regs.sp - 2)).storeWord s.segs.ss (s.regs.sp - 2) v) vs

/-- The state after `n` words are popped: SP rises by 2n (R63). -/
def State.popped (s : State) (n : Nat) : State := s.setReg16 .sp (s.regs.sp + 2 * BitVec.ofNat 16 n)

/-! ## Interrupt entry -/

/-- The four bytes of a vector are declared (R321). -/
def State.hasVector (s : State) (n : Byte) : Prop := ∀ k, k < 4 → s.declares (4 * n.toNat + k) = true

/-- An entry can be made: the three words can be pushed, and the vector can be read. -/
def State.canEnter (s : State) (n : Byte) : Prop := s.canPush 3 ∧ s.hasVector n

/-- The state after the entry of R330: FLAGS, the return selector and the return offset are pushed; IF and TF are cleared;
IP and CS come from physical 4n to 4n+3, read after the pushes; the halt ends, and nothing is left fetched ahead. -/
def State.entered (s : State) (n : Byte) (retCs retIp : Word) : State :=
  let p := s.pushed [s.flags.toWord, retCs, retIp]
  { p with
    flags := { s.flags with IF := false, TF := false }
    ip := wordOf (p.mem.read (4 * n.toNat)) (p.mem.read (4 * n.toNat + 1))
    segs := { s.segs with cs := wordOf (p.mem.read (4 * n.toNat + 2)) (p.mem.read (4 * n.toNat + 3)) }
    halted := false
    ahead := [] }

/-! ## Results and flags by the formulas of R21 to R26, over unbounded integers -/

/-- SF, ZF, PF of a result (R24, R25, R26). -/
def resultFlags {n : Nat} (f : Flags) (r : BitVec n) : Flags :=
  { f with
    SF := decide (2 ^ (n - 1) ≤ r.toNat)
    ZF := decide (r.toNat = 0)
    PF := decide (((List.range 8).filter fun i => r.toNat.testBit i).length % 2 = 0) }

/-- The sum of R27 modulo 2^N. -/
def sumOf {n : Nat} (a b : BitVec n) (c : Nat) : BitVec n := BitVec.ofNat n (a.toNat + b.toNat + c)

/-- The flags of a sum: CF by R21, AF by R22, OF by R23's range, SF, ZF, PF by R24 to R26. -/
def sumFlags {n : Nat} (f : Flags) (a b : BitVec n) (c : Nat) : Flags :=
  { resultFlags f (sumOf a b c) with
    CF := decide (2 ^ n ≤ a.toNat + b.toNat + c)
    AF := decide (15 < a.toNat % 16 + b.toNat % 16 + c)
    OF := decide (a.toInt + b.toInt + c < -2 ^ (n - 1) ∨ 2 ^ (n - 1) ≤ a.toInt + b.toInt + c) }

/-- The difference of R27 modulo 2^N. -/
def differenceOf {n : Nat} (a b : BitVec n) (c : Nat) : BitVec n := BitVec.ofInt n ((a.toNat : Int) - b.toNat - c)

/-- The flags of a difference: CF by R21, AF by R22, OF by R23's range, SF, ZF, PF by R24 to R26. -/
def differenceFlags {n : Nat} (f : Flags) (a b : BitVec n) (c : Nat) : Flags :=
  { resultFlags f (differenceOf a b c) with
    CF := decide (a.toNat < b.toNat + c)
    AF := decide (a.toNat % 16 < b.toNat % 16 + c)
    OF := decide (a.toInt - b.toInt - c < -2 ^ (n - 1) ∨ 2 ^ (n - 1) ≤ a.toInt - b.toInt - c) }

/-- The flags of a logical result: OF and CF cleared, AF the undefined value `af` (R27). -/
def bitwiseFlags {n : Nat} (f : Flags) (r : BitVec n) (af : Bool) : Flags :=
  { resultFlags f r with OF := false, CF := false, AF := af }

/-! ## The two-operand pattern (R160, R190) -/

/-- The eight operations of R160 and R190. -/
inductive AluKind
  | add | or | adc | sbb | and | sub | xor | cmp
deriving DecidableEq, Repr

/-- The result of an operation; `f` are the flags before (R161 to R165, R191 to R193). -/
def AluKind.result {n : Nat} (k : AluKind) (f : Flags) (a b : BitVec n) : BitVec n :=
  match k with
  | .add => sumOf a b 0
  | .adc => sumOf a b f.CF.toNat
  | .sub | .cmp => differenceOf a b 0
  | .sbb => differenceOf a b f.CF.toNat
  | .and => a &&& b
  | .or => a ||| b
  | .xor => a ^^^ b

/-- The flags after an operation; `af` is the undefined AF of the logical ones (R161 to R165, R191 to R193). -/
def AluKind.flags {n : Nat} (k : AluKind) (f : Flags) (a b : BitVec n) (af : Bool) : Flags :=
  match k with
  | .add => sumFlags f a b 0
  | .adc => sumFlags f a b f.CF.toNat
  | .sub | .cmp => differenceFlags f a b 0
  | .sbb => differenceFlags f a b f.CF.toNat
  | .and | .or | .xor => bitwiseFlags f (k.result f a b) af

/-- Every operation but CMP writes its result (R165). -/
def AluKind.writes (k : AluKind) : Bool := k != .cmp

/-- `op r/m8, r8`. -/
def AluKind.rm8R8 : AluKind → Rm8 → Reg8 → Instr
  | .add => .addRm8R8
  | .or => .orRm8R8
  | .adc => .adcRm8R8
  | .sbb => .sbbRm8R8
  | .and => .andRm8R8
  | .sub => .subRm8R8
  | .xor => .xorRm8R8
  | .cmp => .cmpRm8R8

/-- `op r/m16, r16`. -/
def AluKind.rm16R16 : AluKind → Rm16 → Reg16 → Instr
  | .add => .addRm16R16
  | .or => .orRm16R16
  | .adc => .adcRm16R16
  | .sbb => .sbbRm16R16
  | .and => .andRm16R16
  | .sub => .subRm16R16
  | .xor => .xorRm16R16
  | .cmp => .cmpRm16R16

/-- `op r8, r/m8`. -/
def AluKind.r8Rm8 : AluKind → Reg8 → Rm8 → Instr
  | .add => .addR8Rm8
  | .or => .orR8Rm8
  | .adc => .adcR8Rm8
  | .sbb => .sbbR8Rm8
  | .and => .andR8Rm8
  | .sub => .subR8Rm8
  | .xor => .xorR8Rm8
  | .cmp => .cmpR8Rm8

/-- `op r16, r/m16`. -/
def AluKind.r16Rm16 : AluKind → Reg16 → Rm16 → Instr
  | .add => .addR16Rm16
  | .or => .orR16Rm16
  | .adc => .adcR16Rm16
  | .sbb => .sbbR16Rm16
  | .and => .andR16Rm16
  | .sub => .subR16Rm16
  | .xor => .xorR16Rm16
  | .cmp => .cmpR16Rm16

/-- `op AL, imm8`. -/
def AluKind.alImm8 : AluKind → Byte → Instr
  | .add => .addAlImm8
  | .or => .orAlImm8
  | .adc => .adcAlImm8
  | .sbb => .sbbAlImm8
  | .and => .andAlImm8
  | .sub => .subAlImm8
  | .xor => .xorAlImm8
  | .cmp => .cmpAlImm8

/-- `op AX, imm16`. -/
def AluKind.axImm16 : AluKind → Word → Instr
  | .add => .addAxImm16
  | .or => .orAxImm16
  | .adc => .adcAxImm16
  | .sbb => .sbbAxImm16
  | .and => .andAxImm16
  | .sub => .subAxImm16
  | .xor => .xorAxImm16
  | .cmp => .cmpAxImm16

/-- `op r/m8, imm8`. -/
def AluKind.rm8Imm8 : AluKind → Rm8 → Byte → Instr
  | .add => .addRm8Imm8
  | .or => .orRm8Imm8
  | .adc => .adcRm8Imm8
  | .sbb => .sbbRm8Imm8
  | .and => .andRm8Imm8
  | .sub => .subRm8Imm8
  | .xor => .xorRm8Imm8
  | .cmp => .cmpRm8Imm8

/-- `op r/m16, imm16`. -/
def AluKind.rm16Imm16 : AluKind → Rm16 → Word → Instr
  | .add => .addRm16Imm16
  | .or => .orRm16Imm16
  | .adc => .adcRm16Imm16
  | .sbb => .sbbRm16Imm16
  | .and => .andRm16Imm16
  | .sub => .subRm16Imm16
  | .xor => .xorRm16Imm16
  | .cmp => .cmpRm16Imm16

/-- `op r/m16, imm8` sign-extended; the logical operations have no such form (R190). -/
def AluKind.rm16Imm8 : AluKind → Option (Rm16 → Byte → Instr)
  | .add => some .addRm16Imm8
  | .or => none
  | .adc => some .adcRm16Imm8
  | .sbb => some .sbbRm16Imm8
  | .and => none
  | .sub => some .subRm16Imm8
  | .xor => none
  | .cmp => some .cmpRm16Imm8

/-! ## Shifts and rotates (R210 to R220) -/

/-- The seven shifts and rotates of R210. -/
inductive ShiftKind
  | rol | ror | rcl | rcr | sal | shr | sar
deriving DecidableEq, Repr

/-- The result for a count of at least 1, in closed form, the count unreduced (R211 to R217, R218); RCL and RCR turn the ring of N+1
bits in which CF lies above the top bit (R213, R214). -/
def ShiftKind.result {n : Nat} (k : ShiftKind) (x : BitVec n) (cf : Bool) (c : Nat) : BitVec n :=
  match k with
  | .rol => x.rotateLeft c
  | .ror => x.rotateRight c
  | .rcl => ((BitVec.cons cf x).rotateLeft c).truncate n
  | .rcr => ((BitVec.cons cf x).rotateRight c).truncate n
  | .sal => BitVec.ofNat n (x.toNat * 2 ^ c)
  | .shr => BitVec.ofNat n (x.toNat / 2 ^ c)
  | .sar => BitVec.ofInt n (x.toInt / 2 ^ c)

/-- CF after a count of at least 1: the last bit shifted out (R211 to R217). -/
def ShiftKind.carry {n : Nat} (k : ShiftKind) (x : BitVec n) (cf : Bool) (c : Nat) : Bool :=
  match k with
  | .rol => (k.result x cf c).getLsbD 0
  | .ror => (k.result x cf c).msb
  | .rcl => ((BitVec.cons cf x).rotateLeft c).msb
  | .rcr => ((BitVec.cons cf x).rotateRight c).msb
  | .sal => decide (c ≤ n) && x.getLsbD (n - c)
  | .shr => decide (c ≤ n) && x.getLsbD (c - 1)
  | .sar => if c ≤ n then x.getLsbD (c - 1) else x.msb

/-- OF of the one-bit form (R220). -/
def ShiftKind.overflow {n : Nat} (k : ShiftKind) (x : BitVec n) (cf : Bool) : Bool :=
  let r := k.result x cf 1
  match k with
  | .rol | .rcl | .sal => r.msb != k.carry x cf 1
  | .ror | .rcr => r.msb != r.getLsbD (n - 2)
  | .shr => x.msb
  | .sar => false

/-- The flags after a count of at least 1: CF, the given OF; SAL also SF, ZF, PF from the result and the undefined AF (R220). -/
def ShiftKind.flags {n : Nat} (k : ShiftKind) (f : Flags) (x : BitVec n) (c : Nat) (o af : Bool) : Flags :=
  match k with
  | .sal => { resultFlags f (k.result x f.CF c) with CF := k.carry x f.CF c, OF := o, AF := af }
  | .rol | .ror | .rcl | .rcr | .shr | .sar => { f with CF := k.carry x f.CF c, OF := o }

/-- `op r/m8, 1`. -/
def ShiftKind.rm8One : ShiftKind → Rm8 → Instr
  | .rol => .rolRm8One
  | .ror => .rorRm8One
  | .rcl => .rclRm8One
  | .rcr => .rcrRm8One
  | .sal => .salRm8One
  | .shr => .shrRm8One
  | .sar => .sarRm8One

/-- `op r/m16, 1`. -/
def ShiftKind.rm16One : ShiftKind → Rm16 → Instr
  | .rol => .rolRm16One
  | .ror => .rorRm16One
  | .rcl => .rclRm16One
  | .rcr => .rcrRm16One
  | .sal => .salRm16One
  | .shr => .shrRm16One
  | .sar => .sarRm16One

/-- `op r/m8, CL`. -/
def ShiftKind.rm8Cl : ShiftKind → Rm8 → Instr
  | .rol => .rolRm8Cl
  | .ror => .rorRm8Cl
  | .rcl => .rclRm8Cl
  | .rcr => .rcrRm8Cl
  | .sal => .salRm8Cl
  | .shr => .shrRm8Cl
  | .sar => .sarRm8Cl

/-- `op r/m16, CL`. -/
def ShiftKind.rm16Cl : ShiftKind → Rm16 → Instr
  | .rol => .rolRm16Cl
  | .ror => .rorRm16Cl
  | .rcl => .rclRm16Cl
  | .rcr => .rcrRm16Cl
  | .sal => .salRm16Cl
  | .shr => .shrRm16Cl
  | .sar => .sarRm16Cl

/-! ## String instructions (R230) -/

/-- The five string operations. -/
inductive StrKind
  | movs | cmps | scas | lods | stos
deriving DecidableEq, Repr

/-- The byte form. -/
def StrKind.byteForm : StrKind → Instr
  | .movs => .movsb
  | .cmps => .cmpsb
  | .scas => .scasb
  | .lods => .lodsb
  | .stos => .stosb

/-- The word form. -/
def StrKind.wordForm : StrKind → Instr
  | .movs => .movsw
  | .cmps => .cmpsw
  | .scas => .scasw
  | .lods => .lodsw
  | .stos => .stosw

/-- Does the repetition also test ZF (R304)? -/
def StrKind.testsZf : StrKind → Bool
  | .cmps | .scas => true
  | .movs | .lods | .stos => false

/-- Does the operation use SI (R230)? -/
def StrKind.usesSi : StrKind → Bool
  | .movs | .cmps | .lods => true
  | .scas | .stos => false

/-- Does the operation use DI (R230)? -/
def StrKind.usesDi : StrKind → Bool
  | .movs | .cmps | .scas | .stos => true
  | .lods => false

/-- SI and DI moved by `n` elements of the given size, up when DF is clear, down when it is set (R238). -/
def StrKind.advanced (k : StrKind) (s : State) (size n : Nat) : State :=
  let d : Word := BitVec.ofInt 16 ((if s.flags.DF then -(size : Int) else size) * n)
  { s with
    regs :=
      { s.regs with
        si := if k.usesSi then s.regs.si + d else s.regs.si
        di := if k.usesDi then s.regs.di + d else s.regs.di } }

/-- The elements at the present SI and DI are declared, bytes (R237). -/
def StrKind.hasByte (k : StrKind) (s : State) : Prop :=
  (k.usesSi = true → s.hasByte s.dataSeg s.regs.si) ∧ (k.usesDi = true → s.hasByte s.segs.es s.regs.di)

/-- The elements at the present SI and DI are declared, words (R237). -/
def StrKind.hasWord (k : StrKind) (s : State) : Prop :=
  (k.usesSi = true → s.hasWord s.dataSeg s.regs.si) ∧ (k.usesDi = true → s.hasWord s.segs.es s.regs.di)

/-- What one execution does before the indexes move, byte form (R231 to R235). -/
def StrKind.byteEffect (k : StrKind) (s : State) : State :=
  let src := s.byteAt s.dataSeg s.regs.si
  let dst := s.byteAt s.segs.es s.regs.di
  match k with
  | .movs => s.storeByte s.segs.es s.regs.di src
  | .cmps => { s with flags := differenceFlags s.flags src dst 0 }
  | .scas => { s with flags := differenceFlags s.flags (s.reg8 .al) dst 0 }
  | .lods => s.setReg8 .al src
  | .stos => s.storeByte s.segs.es s.regs.di (s.reg8 .al)

/-- What one execution does before the indexes move, word form (R231 to R235). -/
def StrKind.wordEffect (k : StrKind) (s : State) : State :=
  let src := s.wordAt s.dataSeg s.regs.si
  let dst := s.wordAt s.segs.es s.regs.di
  match k with
  | .movs => s.storeWord s.segs.es s.regs.di src
  | .cmps => { s with flags := differenceFlags s.flags src dst 0 }
  | .scas => { s with flags := differenceFlags s.flags s.regs.ax dst 0 }
  | .lods => s.setReg16 .ax src
  | .stos => s.storeWord s.segs.es s.regs.di s.regs.ax

/-- The repetition goes on after an iteration: CX is not 0, and for CMPS and SCAS the comparison was equal (REPE) or unequal
(REPNE) (R304, R305). -/
def StrKind.goesOn (k : StrKind) (p : RepKind) (s : State) : Bool :=
  s.regs.cx != 0 && (!k.testsZf || (match p with | .rep => s.flags.ZF | .repne => !s.flags.ZF))

/-- One of the fourteen pairs of R307. -/
def StrKind.pairs (k : StrKind) (p : RepKind) : Bool := p == .rep || k.testsZf

/-! ## Conditional jumps (R260 to R275) -/

/-- The condition of each conditional jump; `none` for every other instruction. -/
def jumpCondition (f : Flags) : Instr → Option (Prop × Byte)
  | .jo d => some (f.OF = true, d)
  | .jno d => some (f.OF = false, d)
  | .jb d => some (f.CF = true, d)
  | .jnb d => some (f.CF = false, d)
  | .je d => some (f.ZF = true, d)
  | .jne d => some (f.ZF = false, d)
  | .jbe d => some (f.CF = true ∨ f.ZF = true, d)
  | .jnbe d => some (f.CF = false ∧ f.ZF = false, d)
  | .js d => some (f.SF = true, d)
  | .jns d => some (f.SF = false, d)
  | .jp d => some (f.PF = true, d)
  | .jnp d => some (f.PF = false, d)
  | .jl d => some (f.SF ≠ f.OF, d)
  | .jnl d => some (f.SF = f.OF, d)
  | .jle d => some (f.ZF = true ∨ f.SF ≠ f.OF, d)
  | .jnle d => some (f.ZF = false ∧ f.SF = f.OF, d)
  | _ => none

/-! ## Instruction bytes and prefixes -/

/-- The sum of the address registers, unbounded (R93). -/
def State.baseSum (s : State) : Base → Nat
  | .bxsi => s.regs.bx.toNat + s.regs.si.toNat
  | .bxdi => s.regs.bx.toNat + s.regs.di.toNat
  | .bpsi => s.regs.bp.toNat + s.regs.si.toNat
  | .bpdi => s.regs.bp.toNat + s.regs.di.toNat
  | .si => s.regs.si.toNat
  | .di => s.regs.di.toNat
  | .bp => s.regs.bp.toNat
  | .bx => s.regs.bx.toNat

/-- The bytes that a fetch from CS:IP on meets: those fetched ahead, then memory at CS:IP + k, offsets modulo 2^16, declared
(R17, R70). With `PREFETCH_DEPTH` 0 nothing is fetched ahead, and all are memory's. -/
def State.bytesAt (s : State) (bs : List Byte) : Prop :=
  ∀ k (h : k < bs.length),
    match s.ahead[k]? with
    | some b => b = bs[k]
    | none => s.hasByte s.segs.cs (s.ip + BitVec.ofNat 16 k) ∧ s.byteAt s.segs.cs (s.ip + BitVec.ofNat 16 k) = bs[k]

/-- What may have been fetched ahead past the bytes `bs` from CS:IP on: the bytes that follow there, all that had been fetched before, and
no more than that or `PREFETCH_DEPTH` (R70, notes/assumptions/12.md). -/
def State.aheadPast (s : State) (bs q : List Byte) : Prop :=
  s.bytesAt (bs ++ q) ∧ s.ahead.length - bs.length ≤ q.length ∧
    q.length ≤ max (s.ahead.length - bs.length) s.cfg.prefetchDepth

/-- The group of a prefix (R85); `none` for an instruction that is no prefix. -/
def prefixGroup : Instr → Option Nat
  | .lock => some 1
  | .rep | .repne => some 2
  | .segEs | .segCs | .segSs | .segDs => some 3
  | _ => none

/-- What a list of prefixes asks for (R85). -/
def collected : List Instr → Prefixes
  | [] => Prefixes.none
  | .lock :: ps => { collected ps with lock := true }
  | .rep :: ps => { collected ps with rep := some .rep }
  | .repne :: ps => { collected ps with rep := some .repne }
  | .segEs :: ps => { collected ps with seg := some .es }
  | .segCs :: ps => { collected ps with seg := some .cs }
  | .segSs :: ps => { collected ps with seg := some .ss }
  | .segDs :: ps => { collected ps with seg := some .ds }
  | _ :: ps => collected ps

/-- The opcodes that R303 accepts after LOCK; `next` is the byte after the opcode, whose Reg field tells the groups apart. -/
def lockOpcode (op next : Byte) : Bool :=
  let o := op.toNat
  let n := (regOf next).toNat
  (decide (o < 0x38) && decide (o % 8 < 6)) || ((o == 0x80 || o == 0x81) && decide (n < 7)) ||
    (o == 0x83 && (n == 0 || n == 2 || n == 3 || n == 5)) || (decide (0x40 ≤ o) && decide (o < 0x50)) ||
    ((o == 0xFE || o == 0xFF) && decide (n < 2)) || ((o == 0xF6 || o == 0xF7) && (n == 2 || n == 3)) ||
    o == 0x86 || o == 0x87 || (decide (0x90 ≤ o) && decide (o < 0x98))

/-- The encodings of R103, line by line: first opcode byte `op`, the byte after it `next` with its fields Reg and Mod. -/
def listedR103 (op next : Byte) : Bool :=
  let o := op.toNat
  let n := (regOf next).toNat
  let m := (modOf next).toNat
  (o == 0x0F || (decide (0x60 ≤ o) && decide (o ≤ 0x6F)) || [0x82, 0xC0, 0xC1, 0xC8, 0xC9, 0xD6, 0xF1].contains o) ||
    (o == 0x83 && [1, 4, 6].contains n) ||
    ((o == 0x8C || o == 0x8E) && decide (4 ≤ n)) ||
    (o == 0x8F && decide (1 ≤ n)) || ((o == 0xC6 || o == 0xC7) && decide (1 ≤ n)) ||
    (decide (0xD0 ≤ o) && decide (o ≤ 0xD3) && n == 6) ||
    ((o == 0xF6 || o == 0xF7) && n == 1) ||
    (o == 0xFE && decide (2 ≤ n)) || (o == 0xFF && n == 7) ||
    (o == 0x8E && n == 1) ||
    ((o == 0x8D || o == 0xC5 || o == 0xC4) && m == 3) || (o == 0xFF && (n == 3 || n == 5) && m == 3) ||
    ((o == 0xD4 || o == 0xD5) && next.toNat != 0x0A)

/-- The packed BCD byte of a number below 100. -/
def bcd (n : Nat) : Byte := BitVec.ofNat 8 (16 * (n / 10) + n % 10)

/-- The instructions that take an answer of the environment: IN (R66). -/
def takesAnswer : Instr → Bool
  | .inAlImm8 _ | .inAxImm8 _ | .inAlDx | .inAxDx => true
  | _ => false

/-- The instructions that may transfer control: jumps, loops, calls, returns, software interrupts, IRET, and the divisions, whose
error is an interrupt (R242, R320). -/
def mayTransfer : Instr → Bool
  | .jo _ | .jno _ | .jb _ | .jnb _ | .je _ | .jne _ | .jbe _ | .jnbe _ | .js _ | .jns _ | .jp _ | .jnp _ | .jl _ | .jnl _
  | .jle _ | .jnle _ | .loopne _ | .loope _ | .loop _ | .jcxz _ | .jmpRel8 _ | .jmpRel16 _ | .jmpFar _ _ | .jmpRm16 _
  | .jmpM _ | .callRel16 _ | .callFar _ _ | .callRm16 _ | .callM _ | .retNearImm16 _ | .retNear | .retFarImm16 _ | .retFar
  | .int3 | .int _ | .into | .iret | .divRm8 _ | .divRm16 _ | .idivRm8 _ | .idivRm16 _ => true
  | _ => false

/-- The instructions that put out an event: IN, OUT, ESC, LOCK (R36). -/
def putsEvent : Instr → Bool
  | .inAlImm8 _ | .inAxImm8 _ | .inAlDx | .inAxDx | .outImm8Al _ | .outImm8Ax _ | .outDxAl | .outDxAx | .esc _ _ | .lock => true
  | _ => false

/-! ## The state after a two-operand instruction -/

/-- After `op d, b` on bytes: the flags, and the result at the place of the first operand unless the operation is CMP (R160);
`af` is the undefined AF of a logical operation. -/
def AluKind.after8 (k : AluKind) (s : State) (d : Rm8) (b : Byte) (af : Bool) (n : Nat) : State :=
  let t := { s with flags := k.flags s.flags (s.rm8 d) b af, draws := n }
  if k.writes then t.putRm8 d (k.result s.flags (s.rm8 d) b) else t

/-- After `op d, b` on words. -/
def AluKind.after16 (k : AluKind) (s : State) (d : Rm16) (b : Word) (af : Bool) (n : Nat) : State :=
  let t := { s with flags := k.flags s.flags (s.rm16 d) b af, draws := n }
  if k.writes then t.putRm16 d (k.result s.flags (s.rm16 d) b) else t

/-- All forms of R160 run and leave exactly that state, for every state in which the memory operand is declared. -/
def AluKind.Forms (k : AluKind) : Prop :=
  ∀ s : State,
    (∀ d r, s.hasRm8 d → ∃ af n, exec (k.rm8R8 d r) s = .next (k.after8 s d (s.reg8 r) af n)) ∧
    (∀ d r, s.hasRm16 d → ∃ af n, exec (k.rm16R16 d r) s = .next (k.after16 s d (s.reg16 r) af n)) ∧
    (∀ r m, s.hasRm8 m → ∃ af n, exec (k.r8Rm8 r m) s = .next (k.after8 s (.reg r) (s.rm8 m) af n)) ∧
    (∀ r m, s.hasRm16 m → ∃ af n, exec (k.r16Rm16 r m) s = .next (k.after16 s (.reg r) (s.rm16 m) af n)) ∧
    (∀ b, ∃ af n, exec (k.alImm8 b) s = .next (k.after8 s (.reg .al) b af n)) ∧
    (∀ w, ∃ af n, exec (k.axImm16 w) s = .next (k.after16 s (.reg .ax) w af n)) ∧
    (∀ d b, s.hasRm8 d → ∃ af n, exec (k.rm8Imm8 d b) s = .next (k.after8 s d b af n)) ∧
    (∀ d w, s.hasRm16 d → ∃ af n, exec (k.rm16Imm16 d w) s = .next (k.after16 s d w af n)) ∧
    (∀ i d b, k.rm16Imm8 = some i → s.hasRm16 d →
      ∃ af n, exec (i d b) s = .next (k.after16 s d (BitVec.ofInt 16 b.toInt) af n))

/-! ## Footprints: what an instruction may change (R13, R15, R31) -/

/-- The flags of R18, by name. -/
inductive Flag
  | CF | PF | AF | ZF | SF | TF | IF | DF | OF
deriving DecidableEq, Repr

/-- A flag's value. -/
def Flags.get (f : Flags) : Flag → Bool
  | .CF => f.CF
  | .PF => f.PF
  | .AF => f.AF
  | .ZF => f.ZF
  | .SF => f.SF
  | .TF => f.TF
  | .IF => f.IF
  | .DF => f.DF
  | .OF => f.OF

/-- The six status flags (R21 to R26). -/
def Flag.status : List Flag := [.OF, .SF, .ZF, .AF, .PF, .CF]

/-- All nine flags. -/
def Flag.all : List Flag := [.OF, .DF, .IF, .TF, .SF, .ZF, .AF, .PF, .CF]

end Sys2Proof.Machine

namespace Sys2Proof

open Machine (Flag)

/-- The word register that a byte operand lies in. -/
def Rm8.regs : Rm8 → List Reg16
  | .reg r => [r.parent]
  | .mem _ => []

/-- The register that a word operand is. -/
def Rm16.regs : Rm16 → List Reg16
  | .reg r => [r]
  | .mem _ => []

/-- The general registers an instruction may write: its destinations, and those it writes implicitly (R13); a divide error
pushes (R323). -/
def Instr.regsWritten : Instr → List Reg16
  | .addRm8R8 d _ | .addRm8Imm8 d _ | .orRm8R8 d _ | .orRm8Imm8 d _ | .adcRm8R8 d _ | .adcRm8Imm8 d _ | .sbbRm8R8 d _
  | .sbbRm8Imm8 d _ | .andRm8R8 d _ | .andRm8Imm8 d _ | .subRm8R8 d _ | .subRm8Imm8 d _ | .xorRm8R8 d _
  | .xorRm8Imm8 d _ | .incRm8 d | .decRm8 d | .movRm8R8 d _ | .movRm8Imm8 d _ | .rolRm8One d | .rolRm8Cl d
  | .rorRm8One d | .rorRm8Cl d | .rclRm8One d | .rclRm8Cl d | .rcrRm8One d | .rcrRm8Cl d | .salRm8One d | .salRm8Cl d
  | .shrRm8One d | .shrRm8Cl d | .sarRm8One d | .sarRm8Cl d | .notRm8 d | .negRm8 d => d.regs
  | .addRm16R16 d _ | .addRm16Imm16 d _ | .addRm16Imm8 d _ | .orRm16R16 d _ | .orRm16Imm16 d _ | .adcRm16R16 d _
  | .adcRm16Imm16 d _ | .adcRm16Imm8 d _ | .sbbRm16R16 d _ | .sbbRm16Imm16 d _ | .sbbRm16Imm8 d _ | .andRm16R16 d _
  | .andRm16Imm16 d _ | .subRm16R16 d _ | .subRm16Imm16 d _ | .subRm16Imm8 d _ | .xorRm16R16 d _ | .xorRm16Imm16 d _
  | .incRm16 d | .decRm16 d | .movRm16R16 d _ | .movRm16Sreg d _ | .movRm16Imm16 d _ | .rolRm16One d | .rolRm16Cl d
  | .rorRm16One d | .rorRm16Cl d | .rclRm16One d | .rclRm16Cl d | .rcrRm16One d | .rcrRm16Cl d | .salRm16One d
  | .salRm16Cl d | .shrRm16One d | .shrRm16Cl d | .sarRm16One d | .sarRm16Cl d | .notRm16 d | .negRm16 d => d.regs
  | .addR8Rm8 r _ | .orR8Rm8 r _ | .adcR8Rm8 r _ | .sbbR8Rm8 r _ | .andR8Rm8 r _ | .subR8Rm8 r _ | .xorR8Rm8 r _
  | .movR8Rm8 r _ | .movR8Imm8 r _ => [r.parent]
  | .addR16Rm16 r _ | .orR16Rm16 r _ | .adcR16Rm16 r _ | .sbbR16Rm16 r _ | .andR16Rm16 r _ | .subR16Rm16 r _
  | .xorR16Rm16 r _ | .incR16 r | .decR16 r | .movR16Rm16 r _ | .movR16Imm16 r _ | .lea r _ | .les r _ | .lds r _ => [r]
  | .addAlImm8 _ | .addAxImm16 _ | .orAlImm8 _ | .orAxImm16 _ | .adcAlImm8 _ | .adcAxImm16 _ | .sbbAlImm8 _
  | .sbbAxImm16 _ | .andAlImm8 _ | .andAxImm16 _ | .subAlImm8 _ | .subAxImm16 _ | .xorAlImm8 _ | .xorAxImm16 _ | .daa
  | .das | .aaa | .aas | .aam | .aad | .movAlM8 _ | .movAxM16 _ | .cbw | .lahf | .xlatb | .inAlImm8 _ | .inAxImm8 _
  | .inAlDx | .inAxDx | .mulRm8 _ | .imulRm8 _ => [.ax]
  | .pushEs | .pushCs | .pushSs | .pushDs | .pushR16 _ | .pushRm16 _ | .popEs | .popSs | .popDs | .pushf | .popf
  | .retNearImm16 _ | .retNear | .retFarImm16 _ | .retFar | .int3 | .int _ | .into | .iret | .callRel16 _
  | .callFar _ _ | .callRm16 _ | .callM _ => [.sp]
  | .popR16 r => [.sp, r]
  | .popRm16 d => .sp :: d.regs
  | .xchgRm8R8 d r => r.parent :: d.regs
  | .xchgRm16R16 d r => r :: d.regs
  | .xchgAxCx => [.ax, .cx]
  | .xchgAxDx | .mulRm16 _ | .imulRm16 _ => [.ax, .dx]
  | .xchgAxBx => [.ax, .bx]
  | .xchgAxSp | .divRm8 _ | .idivRm8 _ => [.ax, .sp]
  | .xchgAxBp => [.ax, .bp]
  | .xchgAxSi => [.ax, .si]
  | .xchgAxDi => [.ax, .di]
  | .cwd => [.dx]
  | .movsb | .movsw | .cmpsb | .cmpsw => [.si, .di, .cx]
  | .stosb | .stosw | .scasb | .scasw => [.di, .cx]
  | .lodsb | .lodsw => [.ax, .si, .cx]
  | .loopne _ | .loope _ | .loop _ => [.cx]
  | .divRm16 _ | .idivRm16 _ => [.ax, .dx, .sp]
  | .cmpRm8R8 _ _ | .cmpRm16R16 _ _ | .cmpR8Rm8 _ _ | .cmpR16Rm16 _ _ | .cmpAlImm8 _ | .cmpAxImm16 _
  | .cmpRm8Imm8 _ _ | .cmpRm16Imm16 _ _ | .cmpRm16Imm8 _ _ | .segEs | .segCs | .segSs | .segDs | .lock | .repne
  | .rep | .jo _ | .jno _ | .jb _ | .jnb _ | .je _ | .jne _ | .jbe _ | .jnbe _ | .js _ | .jns _ | .jp _ | .jnp _
  | .jl _ | .jnl _ | .jle _ | .jnle _ | .testRm8R8 _ _ | .testRm16R16 _ _ | .testAlImm8 _ | .testAxImm16 _
  | .testRm8Imm8 _ _ | .testRm16Imm16 _ _ | .movEsRm16 _ | .movSsRm16 _ | .movDsRm16 _ | .movM8Al _ | .movM16Ax _
  | .nop | .wait | .sahf | .esc _ _ | .jcxz _ | .outImm8Al _ | .outImm8Ax _ | .outDxAl | .outDxAx | .jmpRel8 _
  | .jmpRel16 _ | .jmpFar _ _ | .jmpRm16 _ | .jmpM _ | .hlt | .cmc | .unused _ _ | .clc | .stc | .cli | .sti | .cld
  | .std => []

/-- The segment registers an instruction may write (R15). -/
def Instr.segsWritten : Instr → List SReg
  | .popEs | .movEsRm16 _ | .les _ _ => [.es]
  | .popSs | .movSsRm16 _ => [.ss]
  | .popDs | .movDsRm16 _ | .lds _ _ => [.ds]
  | .retFarImm16 _ | .retFar | .int3 | .int _ | .into | .iret | .callFar _ _ | .callM _ | .jmpFar _ _ | .jmpM _
  | .divRm8 _ | .divRm16 _ | .idivRm8 _ | .idivRm16 _ => [.cs]
  | .addRm8R8 _ _ | .addRm16R16 _ _ | .addR8Rm8 _ _ | .addR16Rm16 _ _ | .addAlImm8 _ | .addAxImm16 _
  | .addRm8Imm8 _ _ | .addRm16Imm16 _ _ | .addRm16Imm8 _ _ | .orRm8R8 _ _ | .orRm16R16 _ _ | .orR8Rm8 _ _
  | .orR16Rm16 _ _ | .orAlImm8 _ | .orAxImm16 _ | .orRm8Imm8 _ _ | .orRm16Imm16 _ _ | .adcRm8R8 _ _ | .adcRm16R16 _ _
  | .adcR8Rm8 _ _ | .adcR16Rm16 _ _ | .adcAlImm8 _ | .adcAxImm16 _ | .adcRm8Imm8 _ _ | .adcRm16Imm16 _ _
  | .adcRm16Imm8 _ _ | .sbbRm8R8 _ _ | .sbbRm16R16 _ _ | .sbbR8Rm8 _ _ | .sbbR16Rm16 _ _ | .sbbAlImm8 _
  | .sbbAxImm16 _ | .sbbRm8Imm8 _ _ | .sbbRm16Imm16 _ _ | .sbbRm16Imm8 _ _ | .andRm8R8 _ _ | .andRm16R16 _ _
  | .andR8Rm8 _ _ | .andR16Rm16 _ _ | .andAlImm8 _ | .andAxImm16 _ | .andRm8Imm8 _ _ | .andRm16Imm16 _ _
  | .subRm8R8 _ _ | .subRm16R16 _ _ | .subR8Rm8 _ _ | .subR16Rm16 _ _ | .subAlImm8 _ | .subAxImm16 _
  | .subRm8Imm8 _ _ | .subRm16Imm16 _ _ | .subRm16Imm8 _ _ | .xorRm8R8 _ _ | .xorRm16R16 _ _ | .xorR8Rm8 _ _
  | .xorR16Rm16 _ _ | .xorAlImm8 _ | .xorAxImm16 _ | .xorRm8Imm8 _ _ | .xorRm16Imm16 _ _ | .cmpRm8R8 _ _
  | .cmpRm16R16 _ _ | .cmpR8Rm8 _ _ | .cmpR16Rm16 _ _ | .cmpAlImm8 _ | .cmpAxImm16 _ | .cmpRm8Imm8 _ _
  | .cmpRm16Imm16 _ _ | .cmpRm16Imm8 _ _ | .pushEs | .pushCs | .pushSs | .pushDs | .pushR16 _ | .pushRm16 _
  | .popR16 _ | .popRm16 _ | .segEs | .segCs | .segSs | .segDs | .lock | .repne | .rep | .daa | .das | .aaa | .aas
  | .aam | .aad | .incR16 _ | .incRm8 _ | .incRm16 _ | .decR16 _ | .decRm8 _ | .decRm16 _ | .jo _ | .jno _ | .jb _
  | .jnb _ | .je _ | .jne _ | .jbe _ | .jnbe _ | .js _ | .jns _ | .jp _ | .jnp _ | .jl _ | .jnl _ | .jle _ | .jnle _
  | .testRm8R8 _ _ | .testRm16R16 _ _ | .testAlImm8 _ | .testAxImm16 _ | .testRm8Imm8 _ _ | .testRm16Imm16 _ _
  | .xchgRm8R8 _ _ | .xchgRm16R16 _ _ | .xchgAxCx | .xchgAxDx | .xchgAxBx | .xchgAxSp | .xchgAxBp | .xchgAxSi
  | .xchgAxDi | .movRm8R8 _ _ | .movRm16R16 _ _ | .movR8Rm8 _ _ | .movR16Rm16 _ _ | .movRm16Sreg _ _ | .movAlM8 _
  | .movAxM16 _ | .movM8Al _ | .movM16Ax _ | .movR8Imm8 _ _ | .movR16Imm16 _ _ | .movRm8Imm8 _ _ | .movRm16Imm16 _ _
  | .lea _ _ | .nop | .cbw | .cwd | .wait | .pushf | .popf | .sahf | .lahf | .movsb | .movsw | .cmpsb | .cmpsw
  | .stosb | .stosw | .lodsb | .lodsw | .scasb | .scasw | .retNearImm16 _ | .retNear | .rolRm8One _ | .rolRm16One _
  | .rolRm8Cl _ | .rolRm16Cl _ | .rorRm8One _ | .rorRm16One _ | .rorRm8Cl _ | .rorRm16Cl _ | .rclRm8One _
  | .rclRm16One _ | .rclRm8Cl _ | .rclRm16Cl _ | .rcrRm8One _ | .rcrRm16One _ | .rcrRm8Cl _ | .rcrRm16Cl _
  | .salRm8One _ | .salRm16One _ | .salRm8Cl _ | .salRm16Cl _ | .shrRm8One _ | .shrRm16One _ | .shrRm8Cl _
  | .shrRm16Cl _ | .sarRm8One _ | .sarRm16One _ | .sarRm8Cl _ | .sarRm16Cl _ | .xlatb | .esc _ _ | .loopne _
  | .loope _ | .loop _ | .jcxz _ | .inAlImm8 _ | .inAxImm8 _ | .outImm8Al _ | .outImm8Ax _ | .inAlDx | .inAxDx
  | .outDxAl | .outDxAx | .callRel16 _ | .callRm16 _ | .jmpRel8 _ | .jmpRel16 _ | .jmpRm16 _ | .hlt | .cmc
  | .unused _ _ | .notRm8 _ | .notRm16 _ | .negRm8 _ | .negRm16 _ | .mulRm8 _ | .mulRm16 _ | .imulRm8 _ | .imulRm16 _
  | .clc | .stc | .cli | .sti | .cld | .std => []

/-- The flags an instruction may write: the marks other than `-` of its row in R31. -/
def Instr.flagsWritten : Instr → List Flag
  | .incR16 _ | .incRm8 _ | .incRm16 _ | .decR16 _ | .decRm8 _ | .decRm16 _ => [.OF, .SF, .ZF, .AF, .PF]
  | .popf | .iret => Flag.all
  | .sahf => [.SF, .ZF, .AF, .PF, .CF]
  | .int3 | .int _ | .into | .divRm8 _ | .divRm16 _ | .idivRm8 _ | .idivRm16 _ => [.IF, .TF]
  | .rolRm8One _ | .rolRm16One _ | .rolRm8Cl _ | .rolRm16Cl _ | .rorRm8One _ | .rorRm16One _ | .rorRm8Cl _
  | .rorRm16Cl _ | .rclRm8One _ | .rclRm16One _ | .rclRm8Cl _ | .rclRm16Cl _ | .rcrRm8One _ | .rcrRm16One _
  | .rcrRm8Cl _ | .rcrRm16Cl _ | .shrRm8One _ | .shrRm16One _ | .shrRm8Cl _ | .shrRm16Cl _ | .sarRm8One _
  | .sarRm16One _ | .sarRm8Cl _ | .sarRm16Cl _ | .mulRm8 _ | .mulRm16 _ | .imulRm8 _ | .imulRm16 _ => [.OF, .CF]
  | .cmc | .clc | .stc => [.CF]
  | .cli | .sti => [.IF]
  | .cld | .std => [.DF]
  | .addRm8R8 _ _ | .addRm16R16 _ _ | .addR8Rm8 _ _ | .addR16Rm16 _ _ | .addAlImm8 _ | .addAxImm16 _
  | .addRm8Imm8 _ _ | .addRm16Imm16 _ _ | .addRm16Imm8 _ _ | .orRm8R8 _ _ | .orRm16R16 _ _ | .orR8Rm8 _ _
  | .orR16Rm16 _ _ | .orAlImm8 _ | .orAxImm16 _ | .orRm8Imm8 _ _ | .orRm16Imm16 _ _ | .adcRm8R8 _ _ | .adcRm16R16 _ _
  | .adcR8Rm8 _ _ | .adcR16Rm16 _ _ | .adcAlImm8 _ | .adcAxImm16 _ | .adcRm8Imm8 _ _ | .adcRm16Imm16 _ _
  | .adcRm16Imm8 _ _ | .sbbRm8R8 _ _ | .sbbRm16R16 _ _ | .sbbR8Rm8 _ _ | .sbbR16Rm16 _ _ | .sbbAlImm8 _
  | .sbbAxImm16 _ | .sbbRm8Imm8 _ _ | .sbbRm16Imm16 _ _ | .sbbRm16Imm8 _ _ | .andRm8R8 _ _ | .andRm16R16 _ _
  | .andR8Rm8 _ _ | .andR16Rm16 _ _ | .andAlImm8 _ | .andAxImm16 _ | .andRm8Imm8 _ _ | .andRm16Imm16 _ _
  | .subRm8R8 _ _ | .subRm16R16 _ _ | .subR8Rm8 _ _ | .subR16Rm16 _ _ | .subAlImm8 _ | .subAxImm16 _
  | .subRm8Imm8 _ _ | .subRm16Imm16 _ _ | .subRm16Imm8 _ _ | .xorRm8R8 _ _ | .xorRm16R16 _ _ | .xorR8Rm8 _ _
  | .xorR16Rm16 _ _ | .xorAlImm8 _ | .xorAxImm16 _ | .xorRm8Imm8 _ _ | .xorRm16Imm16 _ _ | .cmpRm8R8 _ _
  | .cmpRm16R16 _ _ | .cmpR8Rm8 _ _ | .cmpR16Rm16 _ _ | .cmpAlImm8 _ | .cmpAxImm16 _ | .cmpRm8Imm8 _ _
  | .cmpRm16Imm16 _ _ | .cmpRm16Imm8 _ _ | .daa | .das | .aaa | .aas | .aam | .aad | .testRm8R8 _ _
  | .testRm16R16 _ _ | .testAlImm8 _ | .testAxImm16 _ | .testRm8Imm8 _ _ | .testRm16Imm16 _ _ | .cmpsb | .cmpsw
  | .scasb | .scasw | .salRm8One _ | .salRm16One _ | .salRm8Cl _ | .salRm16Cl _ | .negRm8 _ | .negRm16 _ => Flag.status
  | .pushEs | .pushCs | .pushSs | .pushDs | .pushR16 _ | .pushRm16 _ | .popEs | .popSs | .popDs | .popR16 _
  | .popRm16 _ | .segEs | .segCs | .segSs | .segDs | .lock | .repne | .rep | .jo _ | .jno _ | .jb _ | .jnb _ | .je _
  | .jne _ | .jbe _ | .jnbe _ | .js _ | .jns _ | .jp _ | .jnp _ | .jl _ | .jnl _ | .jle _ | .jnle _ | .xchgRm8R8 _ _
  | .xchgRm16R16 _ _ | .xchgAxCx | .xchgAxDx | .xchgAxBx | .xchgAxSp | .xchgAxBp | .xchgAxSi | .xchgAxDi
  | .movRm8R8 _ _ | .movRm16R16 _ _ | .movR8Rm8 _ _ | .movR16Rm16 _ _ | .movRm16Sreg _ _ | .movEsRm16 _
  | .movSsRm16 _ | .movDsRm16 _ | .movAlM8 _ | .movAxM16 _ | .movM8Al _ | .movM16Ax _ | .movR8Imm8 _ _
  | .movR16Imm16 _ _ | .movRm8Imm8 _ _ | .movRm16Imm16 _ _ | .lea _ _ | .les _ _ | .lds _ _ | .nop | .cbw | .cwd
  | .wait | .pushf | .lahf | .movsb | .movsw | .stosb | .stosw | .lodsb | .lodsw | .retNearImm16 _ | .retNear
  | .retFarImm16 _ | .retFar | .xlatb | .esc _ _ | .loopne _ | .loope _ | .loop _ | .jcxz _ | .inAlImm8 _
  | .inAxImm8 _ | .outImm8Al _ | .outImm8Ax _ | .inAlDx | .inAxDx | .outDxAl | .outDxAx | .callRel16 _ | .callFar _ _
  | .callRm16 _ | .callM _ | .jmpRel8 _ | .jmpRel16 _ | .jmpFar _ _ | .jmpRm16 _ | .jmpM _ | .hlt | .unused _ _
  | .notRm8 _ | .notRm16 _ => []

end Sys2Proof

namespace Sys2Proof.Machine

/-- The two bytes of a word at seg:off (R56). -/
def State.wordAddrs (s : State) (seg off : Word) : List Nat := [phys seg off, s.highAddr seg off]

/-- The byte of an `r/m8` operand in memory (R95, R96). -/
def State.operandAddrs8 (s : State) : Rm8 → List Nat
  | .reg _ => []
  | .mem m => [phys (s.segOf m) (s.ea m)]

/-- The two bytes of an `r/m16` operand in memory (R95, R96). -/
def State.operandAddrs16 (s : State) : Rm16 → List Nat
  | .reg _ => []
  | .mem m => s.wordAddrs (s.segOf m) (s.ea m)

/-- The bytes that `n` pushes store to (R62). -/
def State.pushAddrs (s : State) (n : Nat) : List Nat :=
  (List.range n).flatMap fun k => s.wordAddrs s.segs.ss (s.regs.sp - 2 * BitVec.ofNat 16 (k + 1))

/-- How many elements a string instruction may process in one execution (R305, R309). -/
def State.elements (s : State) : Nat :=
  if s.pfx.rep = none ∨ s.cfg.repInterruptible = true then 1 else repCount s

/-- The bytes that MOVS and STOS may store to: the elements at ES:DI, DI moved by the element size each time (R237, R238). -/
def State.stringAddrs (s : State) (size : Nat) : List Nat :=
  (List.range s.elements).flatMap fun k =>
    let off := s.regs.di + BitVec.ofNat 16 k * s.delta (BitVec.ofNat 16 size)
    if size = 1 then [phys s.segs.es off] else s.wordAddrs s.segs.es off

/-- The addresses of the bytes an instruction may store to, computed as its meaning computes them. -/
def State.stores (s : State) : Instr → List Nat
  | .addRm8R8 d _ | .addRm8Imm8 d _ | .orRm8R8 d _ | .orRm8Imm8 d _ | .adcRm8R8 d _ | .adcRm8Imm8 d _ | .sbbRm8R8 d _
  | .sbbRm8Imm8 d _ | .andRm8R8 d _ | .andRm8Imm8 d _ | .subRm8R8 d _ | .subRm8Imm8 d _ | .xorRm8R8 d _
  | .xorRm8Imm8 d _ | .incRm8 d | .decRm8 d | .xchgRm8R8 d _ | .movRm8R8 d _ | .movRm8Imm8 d _ | .rolRm8One d
  | .rolRm8Cl d | .rorRm8One d | .rorRm8Cl d | .rclRm8One d | .rclRm8Cl d | .rcrRm8One d | .rcrRm8Cl d | .salRm8One d
  | .salRm8Cl d | .shrRm8One d | .shrRm8Cl d | .sarRm8One d | .sarRm8Cl d | .notRm8 d | .negRm8 d => s.operandAddrs8 d
  | .addRm16R16 d _ | .addRm16Imm16 d _ | .addRm16Imm8 d _ | .orRm16R16 d _ | .orRm16Imm16 d _ | .adcRm16R16 d _
  | .adcRm16Imm16 d _ | .adcRm16Imm8 d _ | .sbbRm16R16 d _ | .sbbRm16Imm16 d _ | .sbbRm16Imm8 d _ | .andRm16R16 d _
  | .andRm16Imm16 d _ | .subRm16R16 d _ | .subRm16Imm16 d _ | .subRm16Imm8 d _ | .xorRm16R16 d _ | .xorRm16Imm16 d _
  | .popRm16 d | .incRm16 d | .decRm16 d | .xchgRm16R16 d _ | .movRm16R16 d _ | .movRm16Sreg d _ | .movRm16Imm16 d _
  | .rolRm16One d | .rolRm16Cl d | .rorRm16One d | .rorRm16Cl d | .rclRm16One d | .rclRm16Cl d | .rcrRm16One d
  | .rcrRm16Cl d | .salRm16One d | .salRm16Cl d | .shrRm16One d | .shrRm16Cl d | .sarRm16One d | .sarRm16Cl d
  | .notRm16 d | .negRm16 d => s.operandAddrs16 d
  | .pushEs | .pushCs | .pushSs | .pushDs | .pushR16 _ | .pushRm16 _ | .pushf | .callRel16 _ | .callRm16 _ => s.pushAddrs 1
  | .movM8Al w => [phys s.dataSeg w]
  | .movM16Ax w => s.wordAddrs s.dataSeg w
  | .movsb | .stosb => s.stringAddrs 1
  | .movsw | .stosw => s.stringAddrs 2
  | .int3 | .int _ | .into | .divRm8 _ | .divRm16 _ | .idivRm8 _ | .idivRm16 _ => s.pushAddrs 3
  | .callFar _ _ | .callM _ => s.pushAddrs 2
  | .addR8Rm8 _ _ | .addR16Rm16 _ _ | .addAlImm8 _ | .addAxImm16 _ | .orR8Rm8 _ _ | .orR16Rm16 _ _ | .orAlImm8 _
  | .orAxImm16 _ | .adcR8Rm8 _ _ | .adcR16Rm16 _ _ | .adcAlImm8 _ | .adcAxImm16 _ | .sbbR8Rm8 _ _ | .sbbR16Rm16 _ _
  | .sbbAlImm8 _ | .sbbAxImm16 _ | .andR8Rm8 _ _ | .andR16Rm16 _ _ | .andAlImm8 _ | .andAxImm16 _ | .subR8Rm8 _ _
  | .subR16Rm16 _ _ | .subAlImm8 _ | .subAxImm16 _ | .xorR8Rm8 _ _ | .xorR16Rm16 _ _ | .xorAlImm8 _ | .xorAxImm16 _
  | .cmpRm8R8 _ _ | .cmpRm16R16 _ _ | .cmpR8Rm8 _ _ | .cmpR16Rm16 _ _ | .cmpAlImm8 _ | .cmpAxImm16 _
  | .cmpRm8Imm8 _ _ | .cmpRm16Imm16 _ _ | .cmpRm16Imm8 _ _ | .popEs | .popSs | .popDs | .popR16 _ | .segEs | .segCs
  | .segSs | .segDs | .lock | .repne | .rep | .daa | .das | .aaa | .aas | .aam | .aad | .incR16 _ | .decR16 _ | .jo _
  | .jno _ | .jb _ | .jnb _ | .je _ | .jne _ | .jbe _ | .jnbe _ | .js _ | .jns _ | .jp _ | .jnp _ | .jl _ | .jnl _
  | .jle _ | .jnle _ | .testRm8R8 _ _ | .testRm16R16 _ _ | .testAlImm8 _ | .testAxImm16 _ | .testRm8Imm8 _ _
  | .testRm16Imm16 _ _ | .xchgAxCx | .xchgAxDx | .xchgAxBx | .xchgAxSp | .xchgAxBp | .xchgAxSi | .xchgAxDi
  | .movR8Rm8 _ _ | .movR16Rm16 _ _ | .movEsRm16 _ | .movSsRm16 _ | .movDsRm16 _ | .movAlM8 _ | .movAxM16 _
  | .movR8Imm8 _ _ | .movR16Imm16 _ _ | .lea _ _ | .les _ _ | .lds _ _ | .nop | .cbw | .cwd | .wait | .popf | .sahf
  | .lahf | .cmpsb | .cmpsw | .lodsb | .lodsw | .scasb | .scasw | .retNearImm16 _ | .retNear | .retFarImm16 _
  | .retFar | .iret | .xlatb | .esc _ _ | .loopne _ | .loope _ | .loop _ | .jcxz _ | .inAlImm8 _ | .inAxImm8 _
  | .outImm8Al _ | .outImm8Ax _ | .inAlDx | .inAxDx | .outDxAl | .outDxAx | .jmpRel8 _ | .jmpRel16 _ | .jmpFar _ _
  | .jmpRm16 _ | .jmpM _ | .hlt | .cmc | .unused _ _ | .mulRm8 _ | .mulRm16 _ | .imulRm8 _ | .imulRm16 _ | .clc
  | .stc | .cli | .sti | .cld | .std => []

end Sys2Proof.Machine
end

