-- ==== Sys2Proof/Certificates/Slice0/Obligations.lean ====
section
/-! DEFINITION. The statements for the provers. Each docstring names the rules it formalises. -/

open Sys2Proof Sys2Proof.Machine

/-- Decoding the encoding of any well-formed instruction gives that instruction back (30_encoding R80, 30_encoding
R88, 30_encoding R92, 30_encoding R94, 30_encoding R97, 30_encoding R99, 30_encoding R100, 30_encoding R101,
30_encoding R102). -/
def Obligations.DecodeOfEncode : Prop :=
  ∀ (i : Instr) (rest : List Byte), i.wf = true → decode (encode i ++ rest) = .ok (i, rest)

/-- Whatever decodes is a well-formed instruction whose encoding is the bytes read (30_encoding R80, 30_encoding
R88, 30_encoding R99, 30_encoding R100, 30_encoding R103). -/
def Obligations.EncodeOfDecode : Prop :=
  ∀ (bs rest : List Byte) (i : Instr), decode bs = .ok (i, rest) → i.wf = true ∧ encode i ++ rest = bs

/-- Encodings that the spec writes out decode to the instructions they stand for (30_encoding R82, 30_encoding R91,
30_encoding R100, 30_encoding R105, 40_data_transfer R120, 40_data_transfer R121, 40_data_transfer R124,
40_data_transfer R126, 42_logic_bcd R194, 42_logic_bcd R200, 43_shifts R215, 46_processor_control R290). The
numbering of the segment registers in 8E (DS = 3) is the spec's decision D14, marked in R91 (log 4). -/
def Obligations.DecodesWords : Prop :=
  decode [0x89, 0xD8] = .ok (.movRm16R16 (.reg .ax) .bx, []) ∧
  decode [0x89, 0x47, 0x10] = .ok (.movRm16R16 (.mem (.ind8 .bx 0x10)) .ax, []) ∧
  decode [0xC6, 0x06, 0x00, 0x10, 0x00] = .ok (.movRm8Imm8 (.mem (.abs 0x1000)) 0, []) ∧
  decode [0x49] = .ok (.decR16 .cx, []) ∧
  decode [0xF6, 0xD0] = .ok (.notRm8 (.reg .al), []) ∧
  decode [0xD1, 0xE0] = .ok (.salRm16One (.reg .ax), []) ∧
  decode [0xEA, 0x5B, 0xE0, 0x00, 0xF0] = .ok (.jmpFar 0xE05B 0xF000, []) ∧
  decode [0x9A, 0x34, 0x12, 0x00, 0x20] = .ok (.callFar 0x1234 0x2000, []) ∧
  decode [0xD4, 0x0A] = .ok (.aam, []) ∧
  decode [0x8E, 0xD8] = .ok (.movDsRm16 (.reg .ax), []) ∧
  decode [0xFF, 0x36, 0x00, 0x02] = .ok (.pushRm16 (.mem (.abs 0x0200)), []) ∧
  decode [0xD9, 0x06, 0x00, 0x10] = .ok (.esc 0b001000 (.mem (.abs 0x1000)), [])

/-- Every encoding that R103 lists, and no other, decodes to the refused instruction; executing it is a refusal
(30_encoding R103). That an unused encoding is two bytes long is the model's choice (log 14, DESIGN CHOICE); that
the encodings of R103 are refused is the spec's decisions D6, D13, D15 and D16 (log 4). -/
def Obligations.UnusedRefused : Prop :=
  (∀ (op next : Byte) (rest : List Byte) (s : State), listedR103 op next = true →
    decode (op :: next :: rest) = .ok (.unused op next, rest) ∧
      exec (.unused op next) s = .refused (.unusedEncoding op next)) ∧
  ∀ (bs rest : List Byte) (op next : Byte), decode bs = .ok (.unused op next, rest) → listedR103 op next = true

/-- Physical address formation, its wrap at 1 MB, and aliasing (20_memory R52, 20_memory R53, 20_memory R55). -/
def Obligations.PhysicalAddresses : Prop :=
  (∀ seg off : Word, phys seg off = (seg.toNat * 16 + off.toNat) % 2 ^ 20 ∧ phys seg off < 2 ^ 20) ∧
  phys 0xFFFF 0x000F = 0xFFFFF ∧ phys 0xFFFF 0x0010 = 0 ∧
  phys 0x0000 0x1000 = 0x01000 ∧ phys 0x0100 0x0000 = 0x01000 ∧
  ∀ (s : State) (g o g' o' : Word), phys g o = phys g' o' → s.memRead8 g o = s.memRead8 g' o'

/-- Effective address and default segment of every memory operand form (30_encoding R92, 30_encoding R93,
30_encoding R95, 47_prefixes R300). The sign extension of an 8-bit displacement, and the sum modulo 2^16, are the
spec's decision D38, marked in R93 (log 4). -/
def Obligations.EffectiveAddresses : Prop :=
  ∀ (s : State) (b : Base) (d8 : Byte) (d : Word),
    s.ea (.abs d) = d ∧
    (s.ea (.ind b)).toNat = s.baseSum b % 2 ^ 16 ∧
    ((s.ea (.ind8 b d8)).toNat : Int) = (s.baseSum b + d8.toInt) % 2 ^ 16 ∧
    (s.ea (.ind16 b d)).toNat = (s.baseSum b + d.toNat) % 2 ^ 16 ∧
    (∀ m r, s.pfx.seg = some r → s.segOf m = s.sreg r) ∧
    (s.pfx.seg = none →
      s.segOf (.abs d) = s.segs.ds ∧
      ∀ m, m = .ind b ∨ m = .ind8 b d8 ∨ m = .ind16 b d →
        s.segOf m = if b = .bpsi ∨ b = .bpdi ∨ b = .bp then s.segs.ss else s.segs.ds)

/-- The byte registers are the halves of AX, CX, DX, BX, and a write of one changes nothing else (10_state R11). -/
def Obligations.ByteHalves : Prop :=
  (∀ s : State, s.regs.ax = s.reg8 .ah ++ s.reg8 .al ∧ s.regs.bx = s.reg8 .bh ++ s.reg8 .bl ∧
    s.regs.cx = s.reg8 .ch ++ s.reg8 .cl ∧ s.regs.dx = s.reg8 .dh ++ s.reg8 .dl) ∧
  (∀ (s : State) (r q : Reg8) (v : Byte), (s.setReg8 r v).reg8 q = if q = r then v else s.reg8 q) ∧
  (∀ (s : State) (r : Reg8) (q : Reg16) (v : Byte), q ≠ r.parent → (s.setReg8 r v).reg16 q = s.reg16 q) ∧
  (∀ (s : State) (r : Reg8) (v : Word), (s.setReg16 r.parent v).reg8 r = if r.isHigh then hiByte v else loByte v)

/-- A stored word reads back, low byte at the lower offset, and no other byte of memory changes (20_memory R51,
20_memory R55, 20_memory R56, 20_memory R73). -/
def Obligations.WordStores : Prop :=
  ∀ (s : State) (g o v : Word), s.memOk → s.isRam (phys g o) → s.isRam (s.highAddr g o) →
    ∃ t, s.memWrite16 g o v = .ok t ∧ t.memRead16 g o = .ok v ∧
      t.memRead8 g o = .ok (v.truncate 8) ∧ t.mem.read (s.highAddr g o) = (v >>> 8).truncate 8 ∧
      s.highAddr g o = (if s.cfg.wordOffsetWrap then phys g (o + 1) else (phys g o + 1) % 2 ^ 20) ∧
      ∀ a, a ≠ phys g o → a ≠ s.highAddr g o → t.mem.read a = s.mem.read a

/-- FLAGS as a word: the places of the nine flags, the hard-wired bits, and what a written word can change (10_state
R18, 10_state R19). That the reserved bits read so and ignore writes is the spec's decision D29, marked in R19 (log
4); holding FLAGS as nine bits is log 16. -/
def Obligations.FlagsWord : Prop :=
  (∀ f : Flags,
    f.toWord.getLsbD 0 = f.CF ∧ f.toWord.getLsbD 2 = f.PF ∧ f.toWord.getLsbD 4 = f.AF ∧ f.toWord.getLsbD 6 = f.ZF ∧
    f.toWord.getLsbD 7 = f.SF ∧ f.toWord.getLsbD 8 = f.TF ∧ f.toWord.getLsbD 9 = f.IF ∧ f.toWord.getLsbD 10 = f.DF ∧
    f.toWord.getLsbD 11 = f.OF ∧ f.toWord &&& 0xF02A = 0xF002 ∧ Flags.ofWord f.toWord = f) ∧
  ∀ w : Word, (Flags.ofWord w).toWord = (w &&& 0x0FD5) ||| 0xF002

/-- A push lowers SP by two and stores at SS:SP; a pop gives the word back and restores SP (20_memory R62, 20_memory
R63). -/
def Obligations.PushThenPop : Prop :=
  ∀ (s : State) (v : Word), s.memOk → s.isRam (phys s.segs.ss (s.regs.sp - 2)) →
    s.isRam (s.highAddr s.segs.ss (s.regs.sp - 2)) →
    ∃ t, s.push16 v = .ok t ∧ t.regs = { s.regs with sp := s.regs.sp - 2 } ∧ t.segs = s.segs ∧ t.flags = s.flags ∧
      t.memRead16 t.segs.ss t.regs.sp = .ok v ∧
      t.pop16 = .ok (v, { t with regs := s.regs }) ∧
      ∀ a, a ∉ s.pushAddrs 1 → t.mem.read a = s.mem.read a

/-- ADD and ADC: result and all flags in all nine forms, by the rules of CF, AF, OF, SF, ZF, PF (41_arithmetic R161,
41_arithmetic R162). -/
def Obligations.AddForms : Prop :=
  AluKind.add.Forms ∧ AluKind.adc.Forms

/-- SUB, SBB and CMP: result and all flags in all nine forms; CMP writes no operand (41_arithmetic R163,
41_arithmetic R164, 41_arithmetic R165). -/
def Obligations.SubtractForms : Prop :=
  AluKind.sub.Forms ∧ AluKind.sbb.Forms ∧ AluKind.cmp.Forms

/-- AND, OR, XOR and TEST: result and flags in all forms, AF left undefined; TEST writes no operand (42_logic_bcd
R191, 42_logic_bcd R192, 42_logic_bcd R193, 42_logic_bcd R195). -/
def Obligations.LogicalForms : Prop :=
  AluKind.and.Forms ∧ AluKind.or.Forms ∧ AluKind.xor.Forms ∧
  ∀ s : State,
    (∀ (a b : Byte) d r, s.hasRm8 d → a = s.rm8 d →
      (b = s.reg8 r → ∃ af n, exec (.testRm8R8 d r) s =
        .next { s with flags := bitwiseFlags s.flags (a &&& b) af, draws := n }) ∧
      (∃ af n, exec (.testRm8Imm8 d b) s = .next { s with flags := bitwiseFlags s.flags (a &&& b) af, draws := n })) ∧
    (∀ (a b : Word) d r, s.hasRm16 d → a = s.rm16 d →
      (b = s.reg16 r → ∃ af n, exec (.testRm16R16 d r) s =
        .next { s with flags := bitwiseFlags s.flags (a &&& b) af, draws := n }) ∧
      (∃ af n, exec (.testRm16Imm16 d b) s = .next { s with flags := bitwiseFlags s.flags (a &&& b) af, draws := n })) ∧
    (∀ b, ∃ af n, exec (.testAlImm8 b) s =
      .next { s with flags := bitwiseFlags s.flags (s.reg8 .al &&& b) af, draws := n }) ∧
    (∀ w, ∃ af n, exec (.testAxImm16 w) s =
      .next { s with flags := bitwiseFlags s.flags (s.regs.ax &&& w) af, draws := n })

/-- INC, DEC, NEG and NOT: result and flags in every form; INC and DEC keep CF, NOT keeps every flag (41_arithmetic
R166, 41_arithmetic R167, 41_arithmetic R168, 42_logic_bcd R194). -/
def Obligations.UnaryForms : Prop :=
  ∀ s : State,
    (∀ r, exec (.incR16 r) s = .next (({ s with
        flags := { sumFlags s.flags (s.reg16 r) 1#16 0 with CF := s.flags.CF } }).setReg16 r (sumOf (s.reg16 r) 1#16 0)) ∧
      exec (.decR16 r) s = .next (({ s with
        flags := { differenceFlags s.flags (s.reg16 r) 1#16 0 with CF := s.flags.CF } }).setReg16 r
          (differenceOf (s.reg16 r) 1#16 0))) ∧
    (∀ d x, s.hasRm8 d → x = s.rm8 d →
      exec (.incRm8 d) s = .next (({ s with
        flags := { sumFlags s.flags x 1#8 0 with CF := s.flags.CF } }).putRm8 d (sumOf x 1#8 0)) ∧
      exec (.decRm8 d) s = .next (({ s with
        flags := { differenceFlags s.flags x 1#8 0 with CF := s.flags.CF } }).putRm8 d (differenceOf x 1#8 0)) ∧
      exec (.negRm8 d) s = .next (({ s with flags := differenceFlags s.flags 0#8 x 0 }).putRm8 d (differenceOf 0#8 x 0)) ∧
      exec (.notRm8 d) s = .next (s.putRm8 d (x ^^^ 0xFF#8))) ∧
    (∀ d x, s.hasRm16 d → x = s.rm16 d →
      exec (.incRm16 d) s = .next (({ s with
        flags := { sumFlags s.flags x 1#16 0 with CF := s.flags.CF } }).putRm16 d (sumOf x 1#16 0)) ∧
      exec (.decRm16 d) s = .next (({ s with
        flags := { differenceFlags s.flags x 1#16 0 with CF := s.flags.CF } }).putRm16 d (differenceOf x 1#16 0)) ∧
      exec (.negRm16 d) s = .next (({ s with flags := differenceFlags s.flags 0#16 x 0 }).putRm16 d (differenceOf 0#16 x 0)) ∧
      exec (.notRm16 d) s = .next (s.putRm16 d (x ^^^ 0xFFFF#16)))

/-- MUL: the unsigned product in AX or DX:AX, OF = CF = the high half is not zero, other flags kept (41_arithmetic
R173). -/
def Obligations.MulProducts : Prop :=
  ∀ s : State,
    (∀ m, s.hasRm8 m → ∃ w : Word,
      exec (.mulRm8 m) s = .next { s with
        regs := { s.regs with ax := w }
        flags := { s.flags with OF := decide (hiByte w ≠ 0), CF := decide (hiByte w ≠ 0) } } ∧
      w.toNat = (s.reg8 .al).toNat * (s.rm8 m).toNat) ∧
    (∀ m, s.hasRm16 m → ∃ hi lo : Word,
      exec (.mulRm16 m) s = .next { s with
        regs := { s.regs with ax := lo, dx := hi }
        flags := { s.flags with OF := decide (hi ≠ 0), CF := decide (hi ≠ 0) } } ∧
      2 ^ 16 * hi.toNat + lo.toNat = s.regs.ax.toNat * (s.rm16 m).toNat)

/-- IMUL: the signed product in AX or DX:AX, OF = CF = the product does not fit the operand width (41_arithmetic
R174). -/
def Obligations.ImulProducts : Prop :=
  ∀ s : State,
    (∀ m, s.hasRm8 m → ∃ (w : Word) (o : Bool),
      exec (.imulRm8 m) s = .next { s with
        regs := { s.regs with ax := w }, flags := { s.flags with OF := o, CF := o } } ∧
      w.toInt = (s.reg8 .al).toInt * (s.rm8 m).toInt ∧ (o = true ↔ ¬(-128 ≤ w.toInt ∧ w.toInt ≤ 127))) ∧
    (∀ m, s.hasRm16 m → ∃ (hi lo : Word) (o : Bool),
      exec (.imulRm16 m) s = .next { s with
        regs := { s.regs with ax := lo, dx := hi }, flags := { s.flags with OF := o, CF := o } } ∧
      (hi ++ lo).toInt = s.regs.ax.toInt * (s.rm16 m).toInt ∧
      (o = true ↔ ¬(-32768 ≤ (hi ++ lo).toInt ∧ (hi ++ lo).toInt ≤ 32767)))

/-- DIV: quotient and remainder when the quotient fits, else the divide error with nothing changed before its entry
(41_arithmetic R175, 41_arithmetic R177, 60_exceptions R323). The saved address, that of the first byte with its
prefixes, is the spec's decision D8, marked in R177 and R323 (log 4). That a taken transfer drops what was fetched
ahead is presumed (G13, log 28); with PREFETCH_DEPTH 0 there is nothing to drop. -/
def Obligations.DivQuotients : Prop :=
  ∀ s : State,
    (∀ m (n d : Nat), s.hasRm8 m → n = s.regs.ax.toNat → d = (s.rm8 m).toNat →
      (d ≠ 0 ∧ n / d ≤ 0xFF → ∃ q r : Byte,
        exec (.divRm8 m) s = .next { s with regs := { s.regs with ax := r ++ q } } ∧
        n = q.toNat * d + r.toNat ∧ r.toNat < d) ∧
      (d = 0 ∨ 0xFF < n / d → s.canEnter 0 → exec (.divRm8 m) s = .next (s.entered 0 s.segs.cs s.instrStart))) ∧
    (∀ m (n d : Nat), s.hasRm16 m → n = 2 ^ 16 * s.regs.dx.toNat + s.regs.ax.toNat → d = (s.rm16 m).toNat →
      (d ≠ 0 ∧ n / d ≤ 0xFFFF → ∃ q r : Word,
        exec (.divRm16 m) s = .next { s with regs := { s.regs with ax := q, dx := r } } ∧
        n = q.toNat * d + r.toNat ∧ r.toNat < d) ∧
      (d = 0 ∨ 0xFFFF < n / d → s.canEnter 0 → exec (.divRm16 m) s = .next (s.entered 0 s.segs.cs s.instrStart)))

/-- IDIV: signed quotient truncated toward zero, remainder with the sign of the dividend, else the divide error
(41_arithmetic R176, 41_arithmetic R177, 60_exceptions R323). The range down to -128 and -32768 is the spec's
decision D32, marked in R176, and the saved address (first byte, prefixes included) its decision D8, marked in R177
and R323 (log 4). That a taken transfer drops what was fetched ahead is presumed (G13, log 28); with PREFETCH_DEPTH
0 there is nothing to drop. -/
def Obligations.IdivQuotients : Prop :=
  ∀ s : State,
    (∀ m (n d : Int), s.hasRm8 m → n = s.regs.ax.toInt → d = (s.rm8 m).toInt →
      (d ≠ 0 ∧ -128 ≤ n.tdiv d ∧ n.tdiv d ≤ 127 → ∃ q r : Byte,
        exec (.idivRm8 m) s = .next { s with regs := { s.regs with ax := r ++ q } } ∧
        n = q.toInt * d + r.toInt ∧ r.toInt.natAbs < d.natAbs ∧ 0 ≤ n * r.toInt) ∧
      (d = 0 ∨ n.tdiv d < -128 ∨ 127 < n.tdiv d → s.canEnter 0 →
        exec (.idivRm8 m) s = .next (s.entered 0 s.segs.cs s.instrStart))) ∧
    (∀ m (n d : Int), s.hasRm16 m → n = (s.regs.dx ++ s.regs.ax).toInt → d = (s.rm16 m).toInt →
      (d ≠ 0 ∧ -32768 ≤ n.tdiv d ∧ n.tdiv d ≤ 32767 → ∃ q r : Word,
        exec (.idivRm16 m) s = .next { s with regs := { s.regs with ax := q, dx := r } } ∧
        n = q.toInt * d + r.toInt ∧ r.toInt.natAbs < d.natAbs ∧ 0 ≤ n * r.toInt) ∧
      (d = 0 ∨ n.tdiv d < -32768 ∨ 32767 < n.tdiv d → s.canEnter 0 →
        exec (.idivRm16 m) s = .next (s.entered 0 s.segs.cs s.instrStart)))

/-- ROL, ROR, RCL, RCR, SAL, SHR, SAR by 1: result, CF and OF in closed form, the flags of the outline table
(43_shifts R210, 43_shifts R211, 43_shifts R212, 43_shifts R213, 43_shifts R214, 43_shifts R215, 43_shifts R216,
43_shifts R217, 43_shifts R220). -/
def Obligations.ShiftByOne : Prop :=
  ∀ (k : ShiftKind) (s : State),
    (∀ d, s.hasRm8 d → ∃ af n, exec (k.rm8One d) s = .next (({ s with
      flags := k.flags s.flags (s.rm8 d) 1 (k.overflow (s.rm8 d) s.flags.CF) af, draws := n }).putRm8 d
        (k.result (s.rm8 d) s.flags.CF 1))) ∧
    (∀ d, s.hasRm16 d → ∃ af n, exec (k.rm16One d) s = .next (({ s with
      flags := k.flags s.flags (s.rm16 d) 1 (k.overflow (s.rm16 d) s.flags.CF) af, draws := n }).putRm16 d
        (k.result (s.rm16 d) s.flags.CF 1)))

/-- Shifts and rotates by CL, count 0 to 255 unmasked: closed forms; count 0 changes only OF; OF free but for SAR
(43_shifts R210, 43_shifts R211, 43_shifts R212, 43_shifts R213, 43_shifts R214, 43_shifts R215, 43_shifts R216,
43_shifts R217, 43_shifts R218, 43_shifts R219, 43_shifts R220). That count 0 leaves CF, SF, ZF, PF and AF alone,
and that OF is undefined after every CL form but SAR's with a count, is the spec's decision D11, marked in R219 (log
4); the undefined flags are free values (log 8). -/
def Obligations.ShiftByCl : Prop :=
  ∀ (k : ShiftKind) (s : State) (c : Nat), c = (s.reg8 .cl).toNat →
    (∀ d, s.hasRm8 d →
      (c = 0 → ∃ o n, exec (k.rm8Cl d) s =
        .next (({ s with flags := { s.flags with OF := o }, draws := n }).putRm8 d (s.rm8 d))) ∧
      (1 ≤ c → ∃ o af n, (k = .sar → o = false) ∧ exec (k.rm8Cl d) s = .next (({ s with
        flags := k.flags s.flags (s.rm8 d) c o af, draws := n }).putRm8 d (k.result (s.rm8 d) s.flags.CF c)))) ∧
    (∀ d, s.hasRm16 d →
      (c = 0 → ∃ o n, exec (k.rm16Cl d) s =
        .next (({ s with flags := { s.flags with OF := o }, draws := n }).putRm16 d (s.rm16 d))) ∧
      (1 ≤ c → ∃ o af n, (k = .sar → o = false) ∧ exec (k.rm16Cl d) s = .next (({ s with
        flags := k.flags s.flags (s.rm16 d) c o af, draws := n }).putRm16 d (k.result (s.rm16 d) s.flags.CF c))))

/-- AAA, AAS, AAM and AAD: AX and the defined flags; the undefined flags have some value (42_logic_bcd R198,
42_logic_bcd R199, 42_logic_bcd R200, 42_logic_bcd R201). AAA's +6 is general knowledge the spec marks as G1 (log
23, PRESUMED); the flags of AAM and AAD from AL, and AAD's use of all eight bits of AL and AH, are the spec's
decision D13, marked in R200 and R201 (log 4); the undefined flags are free values (log 8). -/
def Obligations.AsciiAdjust : Prop :=
  ∀ (s : State) (al ah : Nat), al = (s.reg8 .al).toNat → ah = (s.reg8 .ah).toNat →
    (∀ adj : Bool, adj = (s.flags.AF || decide (9 < al % 16)) →
      (∃ o f z p n, exec .aaa s = .next { s with
        regs := { s.regs with ax := if adj then BitVec.ofNat 16 ((ah + 1) % 256 * 256 + (al + 6) % 16)
                                    else BitVec.ofNat 16 (ah * 256 + al % 16) }
        flags := { s.flags with AF := adj, CF := adj, OF := o, SF := f, ZF := z, PF := p }, draws := n }) ∧
      (∃ o f z p n, exec .aas s = .next { s with
        regs := { s.regs with ax := if adj then BitVec.ofNat 16 ((ah + 255) % 256 * 256 + (al + 10) % 16)
                                    else BitVec.ofNat 16 (ah * 256 + al % 16) }
        flags := { s.flags with AF := adj, CF := adj, OF := o, SF := f, ZF := z, PF := p }, draws := n })) ∧
    (∃ o af c n, exec .aam s = .next { s with
      regs := { s.regs with ax := BitVec.ofNat 16 (al / 10 * 256 + al % 10) }
      flags := { resultFlags s.flags (BitVec.ofNat 8 (al % 10)) with OF := o, AF := af, CF := c }, draws := n }) ∧
    (∃ o af c n, exec .aad s = .next { s with
      regs := { s.regs with ax := BitVec.ofNat 16 ((al + ah * 10) % 256) }
      flags := { resultFlags s.flags (BitVec.ofNat 8 ((al + ah * 10) % 256)) with OF := o, AF := af, CF := c }, draws := n })

/-- DAA and DAS: AL, AF, CF and the result flags by the two steps; OF has some value (42_logic_bcd R202,
42_logic_bcd R203). The corrections of the whole byte and the carry out of bit 7 are general knowledge the spec
marks as G2 in R202 and R203 (log 23, PRESUMED); OF is a free value (log 8). -/
def Obligations.DecimalAdjust : Prop :=
  ∀ (s : State) (al : Nat) (lo : Bool), al = (s.reg8 .al).toNat → lo = (s.flags.AF || decide (9 < al % 16)) →
    (∀ hi : Bool, hi = (s.flags.CF || decide (0x99 < al)) → ∀ r : Byte,
      r = BitVec.ofNat 8 (al + (if lo then 6 else 0) + (if hi then 0x60 else 0)) →
      ∃ o n, exec .daa s = .next (({ s with
        flags := { resultFlags s.flags r with AF := lo, CF := hi, OF := o }, draws := n }).setReg8 .al r)) ∧
    (∀ hi : Bool, hi = (s.flags.CF || (lo && decide (al < 6)) || decide (0xA0 + (if lo then 6 else 0) ≤ al)) → ∀ r : Byte,
      r = BitVec.ofInt 8 (al - (if lo then 6 else 0) - (if hi then 0x60 else 0)) →
      ∃ o n, exec .das s = .next (({ s with
        flags := { resultFlags s.flags r with AF := lo, CF := hi, OF := o }, draws := n }).setReg8 .al r))

/-- ADD or ADC then DAA adds, SUB or SBB then DAS subtracts, two-digit packed BCD numbers with carry (42_logic_bcd
R196, 42_logic_bcd R202, 42_logic_bcd R203, 41_arithmetic R161, 41_arithmetic R162, 41_arithmetic R163,
41_arithmetic R164). It rests on DAA and DAS as the spec corrects them from general knowledge, G2 (log 23,
PRESUMED). -/
def Obligations.BcdArithmetic : Prop :=
  ∀ (s : State) (x y : Nat), x < 100 → y < 100 → s.reg8 .al = bcd x →
    (∀ (i : Instr) (c : Nat), i = .addAlImm8 (bcd y) ∧ c = 0 ∨ i = .adcAlImm8 (bcd y) ∧ c = s.flags.CF.toNat →
      ∃ t u, exec i s = .next t ∧ exec .daa t = .next u ∧ u.reg8 .al = bcd ((x + y + c) % 100) ∧
        u.flags.CF = decide (100 ≤ x + y + c)) ∧
    (∀ (i : Instr) (c : Nat), i = .subAlImm8 (bcd y) ∧ c = 0 ∨ i = .sbbAlImm8 (bcd y) ∧ c = s.flags.CF.toNat →
      ∃ t u, exec i s = .next t ∧ exec .das t = .next u ∧ u.reg8 .al = bcd ((x + 100 - y - c) % 100) ∧
        u.flags.CF = decide (x < y + c))

/-- MOV between registers, memory and immediates: the destination gets the source, nothing else changes
(40_data_transfer R120, 40_data_transfer R123, 40_data_transfer R124). -/
def Obligations.MovForms : Prop :=
  ∀ s : State,
    (∀ d r, s.hasRm8 d → exec (.movRm8R8 d r) s = .next (s.putRm8 d (s.reg8 r))) ∧
    (∀ d r, s.hasRm16 d → exec (.movRm16R16 d r) s = .next (s.putRm16 d (s.reg16 r))) ∧
    (∀ r m, s.hasRm8 m → exec (.movR8Rm8 r m) s = .next (s.setReg8 r (s.rm8 m))) ∧
    (∀ r m, s.hasRm16 m → exec (.movR16Rm16 r m) s = .next (s.setReg16 r (s.rm16 m))) ∧
    (∀ r b, exec (.movR8Imm8 r b) s = .next (s.setReg8 r b)) ∧
    (∀ r w, exec (.movR16Imm16 r w) s = .next (s.setReg16 r w)) ∧
    (∀ d b, s.hasRm8 d → exec (.movRm8Imm8 d b) s = .next (s.putRm8 d b)) ∧
    (∀ d w, s.hasRm16 d → exec (.movRm16Imm16 d w) s = .next (s.putRm16 d w))

/-- MOV with segment registers, and MOV of the accumulator at a direct offset (40_data_transfer R121,
40_data_transfer R122, 30_encoding R98, 30_encoding R91). The segment override on A0 to A3 is the spec's decision
D17, marked in R98, and the numbering of the segment registers in 8C and 8E its decision D14, marked in R91 (log 4). -/
def Obligations.MovSegmentAndDirect : Prop :=
  ∀ s : State,
    (∀ d q, s.hasRm16 d → exec (.movRm16Sreg d q) s = .next (s.putRm16 d (s.sreg q))) ∧
    (∀ m, s.hasRm16 m →
      exec (.movEsRm16 m) s = .next { s with segs := { s.segs with es := s.rm16 m } } ∧
      exec (.movSsRm16 m) s = .next { s with segs := { s.segs with ss := s.rm16 m } } ∧
      exec (.movDsRm16 m) s = .next { s with segs := { s.segs with ds := s.rm16 m } }) ∧
    (∀ g o, (g = match s.pfx.seg with
        | some q => s.sreg q
        | none => s.segs.ds) →
      (s.hasByte g o → exec (.movAlM8 o) s = .next (s.setReg8 .al (s.byteAt g o)) ∧
        exec (.movM8Al o) s = .next (s.storeByte g o (s.reg8 .al))) ∧
      (s.hasWord g o → exec (.movAxM16 o) s = .next { s with regs := { s.regs with ax := s.wordAt g o } } ∧
        exec (.movM16Ax o) s = .next (s.storeWord g o s.regs.ax)))

/-- XCHG exchanges its operands in every form, and nothing else changes (40_data_transfer R125). -/
def Obligations.XchgForms : Prop :=
  ∀ s : State,
    (∀ m r, s.hasRm8 m → exec (.xchgRm8R8 m r) s = .next ((s.putRm8 m (s.reg8 r)).setReg8 r (s.rm8 m))) ∧
    (∀ m r, s.hasRm16 m → exec (.xchgRm16R16 m r) s = .next ((s.putRm16 m (s.reg16 r)).setReg16 r (s.rm16 m))) ∧
    exec .xchgAxCx s = .next { s with regs := { s.regs with ax := s.regs.cx, cx := s.regs.ax } } ∧
    exec .xchgAxDx s = .next { s with regs := { s.regs with ax := s.regs.dx, dx := s.regs.ax } } ∧
    exec .xchgAxBx s = .next { s with regs := { s.regs with ax := s.regs.bx, bx := s.regs.ax } } ∧
    exec .xchgAxSp s = .next { s with regs := { s.regs with ax := s.regs.sp, sp := s.regs.ax } } ∧
    exec .xchgAxBp s = .next { s with regs := { s.regs with ax := s.regs.bp, bp := s.regs.ax } } ∧
    exec .xchgAxSi s = .next { s with regs := { s.regs with ax := s.regs.si, si := s.regs.ax } } ∧
    exec .xchgAxDi s = .next { s with regs := { s.regs with ax := s.regs.di, di := s.regs.ax } }

/-- PUSH of a register, memory word, segment register or FLAGS; PUSH SP stores the decremented SP (40_data_transfer
R127, 40_data_transfer R128, 40_data_transfer R126, 40_data_transfer R132). The PUSH SP of the FF /6 form is an
inference the spec marks as its own in R126 (log 4). -/
def Obligations.PushForms : Prop :=
  ∀ s : State, s.canPush 1 →
    (∀ r, exec (.pushR16 r) s = .next (s.pushed [if r = .sp then s.regs.sp - 2 else s.reg16 r])) ∧
    (∀ m, s.hasRm16 m →
      exec (.pushRm16 m) s = .next (s.pushed [if m = .reg .sp then s.regs.sp - 2 else s.rm16 m])) ∧
    exec .pushEs s = .next (s.pushed [s.segs.es]) ∧ exec .pushCs s = .next (s.pushed [s.segs.cs]) ∧
    exec .pushSs s = .next (s.pushed [s.segs.ss]) ∧ exec .pushDs s = .next (s.pushed [s.segs.ds]) ∧
    exec .pushf s = .next (s.pushed [s.flags.toWord])

/-- POP into a register, memory word, segment register or FLAGS; POP SP loads the word that was read
(40_data_transfer R129, 40_data_transfer R130, 40_data_transfer R131, 40_data_transfer R133, 10_state R19). -/
def Obligations.PopForms : Prop :=
  ∀ s : State, s.canPop 1 →
    (∀ r, exec (.popR16 r) s = .next ((s.popped 1).setReg16 r (s.stackWord 0))) ∧
    (∀ d, s.hasRm16 d → exec (.popRm16 d) s = .next ((s.popped 1).putRm16 d (s.stackWord 0))) ∧
    exec .popEs s = .next ((s.popped 1).setSreg .es (s.stackWord 0)) ∧
    exec .popSs s = .next ((s.popped 1).setSreg .ss (s.stackWord 0)) ∧
    exec .popDs s = .next ((s.popped 1).setSreg .ds (s.stackWord 0)) ∧
    ∃ f : Flags, exec .popf s = .next { s.popped 1 with flags := f } ∧
      f.toWord = (s.stackWord 0 &&& 0x0FD5) ||| 0xF002

/-- LAHF, SAHF move the low byte of FLAGS to and from AH; CBW, CWD extend the sign of AL, of AX (40_data_transfer
R134, 40_data_transfer R135, 40_data_transfer R140, 40_data_transfer R146). -/
def Obligations.FlagByteAndSignExtension : Prop :=
  ∀ s : State,
    exec .lahf s = .next (s.setReg8 .ah (BitVec.ofNat 8
      (128 * s.flags.SF.toNat + 64 * s.flags.ZF.toNat + 16 * s.flags.AF.toNat + 4 * s.flags.PF.toNat + 2 +
        s.flags.CF.toNat))) ∧
    exec .sahf s = .next { s with
      flags := { s.flags with
        SF := (s.reg8 .ah).toNat.testBit 7
        ZF := (s.reg8 .ah).toNat.testBit 6
        AF := (s.reg8 .ah).toNat.testBit 4
        PF := (s.reg8 .ah).toNat.testBit 2
        CF := (s.reg8 .ah).toNat.testBit 0 } } ∧
    (∃ t, exec .cbw s = .next t ∧
      t = s.setReg8 .ah (if (s.reg8 .al).getLsbD 7 then 0xFF else 0x00) ∧ t.regs.ax.toInt = (s.reg8 .al).toInt) ∧
    (∃ t, exec .cwd s = .next t ∧
      t = { s with regs := { s.regs with dx := if s.regs.ax.getLsbD 15 then 0xFFFF else 0x0000 } } ∧
      (t.regs.dx ++ t.regs.ax).toInt = s.regs.ax.toInt)

/-- LEA, LDS, LES and XLATB: the register gets the address, the far pointer, the table byte (40_data_transfer R136,
40_data_transfer R137, 40_data_transfer R138, 40_data_transfer R141, 20_memory R71). The override of XLATB is the
spec's decision D17 (R141), the reading of both pointer words before any write D28 (R137), the selector at EA + 2
modulo 2^16 D34 (R71), all log 4. -/
def Obligations.AddressAndPointerLoads : Prop :=
  ∀ s : State,
    (∀ r m, exec (.lea r m) s = .next (s.setReg16 r (s.ea m))) ∧
    (∀ r m, s.hasFar m →
      exec (.lds r m) s = .next { s.setReg16 r (s.farOff m) with segs := { s.segs with ds := s.farSel m } } ∧
      exec (.les r m) s = .next { s.setReg16 r (s.farOff m) with segs := { s.segs with es := s.farSel m } }) ∧
    (∀ g o, (g = match s.pfx.seg with
        | some q => s.sreg q
        | none => s.segs.ds) →
      o = BitVec.ofNat 16 (s.regs.bx.toNat + (s.reg8 .al).toNat) → s.hasByte g o →
      exec .xlatb s = .next (s.setReg8 .al (s.byteAt g o)))

/-- IN takes the answer of the environment from the port; OUT puts AL or AX out to the port; one event each
(40_data_transfer R142, 40_data_transfer R143, 40_data_transfer R144, 40_data_transfer R145, 20_memory R66). A word
transfer as one event is the spec's decision D5, marked in R66 (log 4); the list of answers is the model's form of
the I/O oracle (log 6, DESIGN CHOICE) and the list of events its record of the outputs (log 7, DESIGN CHOICE). -/
def Obligations.InputOutput : Prop :=
  ∀ (s : State) (p : Byte) (port : Word) (i8 i16 o8 o16 : Instr),
    (port = BitVec.ofNat 16 p.toNat ∧ i8 = .inAlImm8 p ∧ i16 = .inAxImm8 p ∧ o8 = .outImm8Al p ∧ o16 = .outImm8Ax p) ∨
    (port = s.regs.dx ∧ i8 = .inAlDx ∧ i16 = .inAxDx ∧ o8 = .outDxAl ∧ o16 = .outDxAx) →
    (∃ (v : Word) (n : Nat), (∀ w ws, s.ioReplies = w :: ws → v = w ∧ n = s.draws) ∧
      exec i8 s = .next { s.setReg8 .al (v.truncate 8) with
        ioReplies := s.ioReplies.tail, outputs := .ioRead8 port (v.truncate 8) :: s.outputs, draws := n } ∧
      exec i16 s = .next { s.setReg16 .ax v with
        ioReplies := s.ioReplies.tail, outputs := .ioRead16 port v :: s.outputs, draws := n }) ∧
    exec o8 s = .next { s with outputs := .ioWrite8 port (s.reg8 .al) :: s.outputs } ∧
    exec o16 s = .next { s with outputs := .ioWrite16 port s.regs.ax :: s.outputs }

/-- JMP short, near, indirect and far: IP, and CS for the far forms, get the target; nothing else changes
(45_control_transfer R246, 45_control_transfer R247, 45_control_transfer R248, 45_control_transfer R249,
45_control_transfer R250). That a taken transfer drops what was fetched ahead is presumed (G13, log 28); with
PREFETCH_DEPTH 0 there is nothing to drop. -/
def Obligations.JumpForms : Prop :=
  ∀ s : State,
    (∀ d, exec (.jmpRel8 d) s = .next { s with ip := BitVec.ofInt 16 (s.ip.toNat + d.toInt), ahead := [] }) ∧
    (∀ d, exec (.jmpRel16 d) s = .next { s with ip := BitVec.ofNat 16 (s.ip.toNat + d.toNat), ahead := [] }) ∧
    (∀ m, s.hasRm16 m → exec (.jmpRm16 m) s = .next { s with ip := s.rm16 m, ahead := [] }) ∧
    (∀ o g, exec (.jmpFar o g) s = .next { s with ip := o, segs := { s.segs with cs := g }, ahead := [] }) ∧
    (∀ m, s.hasFar m → exec (.jmpM m) s =
      .next { s with ip := s.farOff m, segs := { s.segs with cs := s.farSel m }, ahead := [] })

/-- The sixteen conditional jumps: taken exactly on their condition, to the relative target; nothing else changes
(45_control_transfer R259, 30_encoding R101, 45_control_transfer R260, 45_control_transfer R262, 45_control_transfer
R264, 45_control_transfer R266, 45_control_transfer R268, 45_control_transfer R269, 45_control_transfer R270,
45_control_transfer R271, 45_control_transfer R272, 45_control_transfer R273). The conditions of all sixteen are the
table of R101. That a taken transfer drops what was fetched ahead is presumed (G13, log 28); with PREFETCH_DEPTH 0
there is nothing to drop. -/
def Obligations.ConditionalJumps : Prop :=
  ∀ (s : State) (i : Instr) (c : Prop) (d : Byte), jumpCondition s.flags i = some (c, d) →
    (c → exec i s = .next { s with ip := BitVec.ofInt 16 (s.ip.toNat + d.toInt), ahead := [] }) ∧ (¬c → exec i s = .next s)

/-- After CMP a, b: JB is a < b unsigned, JBE a <= b, JL is a < b signed, JLE a <= b, JE is a = b
(45_control_transfer R259, 41_arithmetic R165). -/
def Obligations.CompareThenJump : Prop :=
  (∀ (s : State) (w : Word) (d : Byte), ∃ t, exec (.cmpAxImm16 w) s = .next t ∧
    (∀ c, jumpCondition t.flags (.jb d) = some (c, d) → (c ↔ s.regs.ax.toNat < w.toNat)) ∧
    (∀ c, jumpCondition t.flags (.jbe d) = some (c, d) → (c ↔ s.regs.ax.toNat ≤ w.toNat)) ∧
    (∀ c, jumpCondition t.flags (.jl d) = some (c, d) → (c ↔ s.regs.ax.toInt < w.toInt)) ∧
    (∀ c, jumpCondition t.flags (.jle d) = some (c, d) → (c ↔ s.regs.ax.toInt ≤ w.toInt)) ∧
    (∀ c, jumpCondition t.flags (.je d) = some (c, d) → (c ↔ s.regs.ax = w))) ∧
  (∀ (s : State) (b d : Byte), ∃ t, exec (.cmpAlImm8 b) s = .next t ∧
    (∀ c, jumpCondition t.flags (.jb d) = some (c, d) → (c ↔ (s.reg8 .al).toNat < b.toNat)) ∧
    (∀ c, jumpCondition t.flags (.jbe d) = some (c, d) → (c ↔ (s.reg8 .al).toNat ≤ b.toNat)) ∧
    (∀ c, jumpCondition t.flags (.jl d) = some (c, d) → (c ↔ (s.reg8 .al).toInt < b.toInt)) ∧
    (∀ c, jumpCondition t.flags (.jle d) = some (c, d) → (c ↔ (s.reg8 .al).toInt ≤ b.toInt)) ∧
    (∀ c, jumpCondition t.flags (.je d) = some (c, d) → (c ↔ s.reg8 .al = b)))

/-- JCXZ, LOOP, LOOPE and LOOPNE: CX, the jump, no flag (45_control_transfer R276, 45_control_transfer R277,
45_control_transfer R278, 45_control_transfer R279). That a taken transfer drops what was fetched ahead is presumed
(G13, log 28); with PREFETCH_DEPTH 0 there is nothing to drop. -/
def Obligations.LoopForms : Prop :=
  ∀ (s : State) (d : Byte) (tgt c : Word),
    tgt = BitVec.ofInt 16 (s.ip.toNat + d.toInt) → c = BitVec.ofInt 16 ((s.regs.cx.toNat : Int) - 1) →
    exec (.jcxz d) s = .next (if s.regs.cx = 0 then { s with ip := tgt, ahead := [] } else s) ∧
    ∀ t : State, t = { s with regs := { s.regs with cx := c } } →
      exec (.loop d) s = .next (if c ≠ 0 then { t with ip := tgt, ahead := [] } else t) ∧
      exec (.loope d) s = .next (if c ≠ 0 ∧ s.flags.ZF = true then { t with ip := tgt, ahead := [] } else t) ∧
      exec (.loopne d) s = .next (if c ≠ 0 ∧ s.flags.ZF = false then { t with ip := tgt, ahead := [] } else t)

/-- CALL near and far, direct and indirect: the return address is pushed, then IP (and CS) get the target
(45_control_transfer R251, 45_control_transfer R252, 45_control_transfer R253, 45_control_transfer R254,
45_control_transfer R243). That an indirect target is read before anything is pushed (CALL SP) is the spec's
decision D28, marked in R243 (log 4). That a taken transfer drops what was fetched ahead is presumed (G13, log 28);
with PREFETCH_DEPTH 0 there is nothing to drop. -/
def Obligations.CallForms : Prop :=
  ∀ s : State,
    (s.canPush 1 →
      (∀ d, exec (.callRel16 d) s =
        .next { s.pushed [s.ip] with ip := BitVec.ofNat 16 (s.ip.toNat + d.toNat), ahead := [] }) ∧
      (∀ m, s.hasRm16 m → exec (.callRm16 m) s = .next { s.pushed [s.ip] with ip := s.rm16 m, ahead := [] })) ∧
    (s.canPush 2 →
      (∀ o g, exec (.callFar o g) s =
        .next { s.pushed [s.segs.cs, s.ip] with ip := o, segs := { s.segs with cs := g }, ahead := [] }) ∧
      (∀ m, s.hasFar m → exec (.callM m) s =
        .next { s.pushed [s.segs.cs, s.ip] with ip := s.farOff m, segs := { s.segs with cs := s.farSel m }, ahead := [] }))

/-- RET near and far, with and without an immediate: IP (and CS) from the stack, SP past the words and the bytes
released (45_control_transfer R255, 45_control_transfer R256, 45_control_transfer R257, 45_control_transfer R258).
That a taken transfer drops what was fetched ahead is presumed (G13, log 28); with PREFETCH_DEPTH 0 there is nothing
to drop. -/
def Obligations.ReturnForms : Prop :=
  ∀ s : State,
    (s.canPop 1 →
      exec .retNear s = .next { s.popped 1 with ip := s.stackWord 0, ahead := [] } ∧
      ∀ w, exec (.retNearImm16 w) s = .next { s with
        regs := { s.regs with sp := s.regs.sp + 2 + w }, ip := s.stackWord 0, ahead := [] }) ∧
    (s.canPop 2 →
      exec .retFar s =
        .next { s.popped 2 with ip := s.stackWord 0, segs := { s.segs with cs := s.stackWord 1 }, ahead := [] } ∧
      ∀ w, exec (.retFarImm16 w) s = .next { s with
        regs := { s.regs with sp := s.regs.sp + 4 + w }, ip := s.stackWord 0
        segs := { s.segs with cs := s.stackWord 1 }, ahead := [] })

/-- INT n, INT 3 and INTO enter their vector with the next instruction saved; INTO with OF clear does nothing
(45_control_transfer R400, 45_control_transfer R401, 45_control_transfer R402, 60_exceptions R330). That a taken
transfer drops what was fetched ahead is presumed (G13, log 28); with PREFETCH_DEPTH 0 there is nothing to drop. -/
def Obligations.SoftwareInterrupts : Prop :=
  ∀ s : State,
    (∀ n, s.canEnter n → exec (.int n) s = .next (s.entered n s.segs.cs s.ip)) ∧
    (s.canEnter 3 → exec .int3 s = .next (s.entered 3 s.segs.cs s.ip)) ∧
    (s.flags.OF = true → s.canEnter 4 → exec .into s = .next (s.entered 4 s.segs.cs s.ip)) ∧
    (s.flags.OF = false → exec .into s = .next s)

/-- IRET loads IP, CS and all nine flags from the stack, raises SP by 6 and unblocks NMI (45_control_transfer R403,
10_state R19, 10_state R33). That the reserved bits of the popped word are ignored is the spec's decision D29,
marked in R19 (log 4). That a taken transfer drops what was fetched ahead is presumed (G13, log 28); with
PREFETCH_DEPTH 0 there is nothing to drop. -/
def Obligations.InterruptReturn : Prop :=
  ∀ s : State, s.canPop 3 → ∃ f : Flags,
    exec .iret s = .next { s.popped 3 with
      ip := s.stackWord 0, segs := { s.segs with cs := s.stackWord 1 }, flags := f, nmiBlocked := false, ahead := [] } ∧
    f.toWord = (s.stackWord 2 &&& 0x0FD5) ||| 0xF002

/-- Taking any interrupt and then IRET restores CS, IP, FLAGS, SP and every other register (60_exceptions R330,
60_exceptions R332, 45_control_transfer R403, 20_memory R65). -/
def Obligations.EntryThenReturn : Prop :=
  ∀ (s : State) (n : Byte) (c i : Word), s.memOk → s.canEnter n → (∀ a, a ∈ s.pushAddrs 3 → s.isRam a) →
    ∃ t u, s.interrupt n c i = .ok t ∧ t.flags = { s.flags with IF := false, TF := false } ∧
      t.regs = { s.regs with sp := s.regs.sp - 6 } ∧
      t.stackWord 0 = i ∧ t.stackWord 1 = c ∧ t.stackWord 2 = s.flags.toWord ∧ t.halted = false ∧
      t.ip = wordOf (t.mem.read (4 * n.toNat)) (t.mem.read (4 * n.toNat + 1)) ∧
      t.segs = { s.segs with cs := wordOf (t.mem.read (4 * n.toNat + 2)) (t.mem.read (4 * n.toNat + 3)) } ∧
      exec .iret t = .next u ∧ u.regs = s.regs ∧ u.segs = { s.segs with cs := c } ∧ u.ip = i ∧ u.flags = s.flags ∧
      ∀ a, a ∉ s.pushAddrs 3 → u.mem.read a = s.mem.read a

/-- CLC, STC, CMC, CLD, STD, CLI and STI change their one flag and nothing else (46_processor_control R280,
46_processor_control R281, 46_processor_control R282, 46_processor_control R283, 46_processor_control R284,
46_processor_control R285, 46_processor_control R286). When the new IF acts (the spec's decisions D10 and D30) is no
part of this statement. -/
def Obligations.FlagControl : Prop :=
  ∀ s : State,
    exec .clc s = .next { s with flags := { s.flags with CF := false } } ∧
    exec .stc s = .next { s with flags := { s.flags with CF := true } } ∧
    exec .cmc s = .next { s with flags := { s.flags with CF := !s.flags.CF } } ∧
    exec .cld s = .next { s with flags := { s.flags with DF := false } } ∧
    exec .std s = .next { s with flags := { s.flags with DF := true } } ∧
    exec .cli s = .next { s with flags := { s.flags with IF := false } } ∧
    exec .sti s = .next { s with flags := { s.flags with IF := true } }

/-- NOP does nothing, HLT halts, WAIT goes on exactly when the coprocessor is ready, ESC signals and goes on
(46_processor_control R287, 46_processor_control R288, 46_processor_control R289, 46_processor_control R290). The
form in which WAIT stays is the model's (log 15, DESIGN CHOICE), and so is the ready sample when the list of inputs
has ended (log 5, DESIGN CHOICE); that ESC reads no memory is the spec's decision D23 (log 26, DEDUCED), and its
signal is an event of the model's list (log 7, DESIGN CHOICE). -/
def Obligations.NopHltWaitEsc : Prop :=
  (∀ s : State,
    exec .nop s = .next s ∧
    exec .hlt s = .next { s with halted := true } ∧
    ((s.inputs.headD Inputs.idle).ready = true → exec .wait s = .next s) ∧
    ((s.inputs.headD Inputs.idle).ready = false →
      exec .wait s = .next { s with ip := s.instrStart, pause := .waiting s.ip }) ∧
    ∀ op, (∀ r, exec (.esc op (.reg r)) s = .next { s with outputs := .coprocessor op none :: s.outputs }) ∧
      ∀ m, exec (.esc op (.mem m)) s =
        .next { s with outputs := .coprocessor op (some (phys (s.segOf m) (s.ea m))) :: s.outputs }) ∧
  ∀ (s : State) (next : Word), s.halted = false → s.pause = .waiting next →
    step s = atBoundary true (exec .wait { s with ip := next, pause := .none })

/-- One execution of each string instruction: the element, the flags of CMPS and SCAS, and the index update
(44_string R231, 44_string R232, 44_string R233, 44_string R234, 44_string R235, 44_string R237, 44_string R238,
44_string R239). SCAS as accumulator minus memory is the spec's decision D12, marked in R233, and the order of reads
and writes its decision D28, marked in R239 (log 4). -/
def Obligations.StringElements : Prop :=
  ∀ (k : StrKind) (s : State), s.pfx.rep = none →
    (k.hasByte s → exec k.byteForm s = .next (k.advanced (k.byteEffect s) 1 1)) ∧
    (k.hasWord s → exec k.wordForm s = .next (k.advanced (k.wordEffect s) 2 1))

/-- A repeated string instruction is one execution, CX decremented, the stop test, and then itself again
(47_prefixes R305, 47_prefixes R309, 20_memory R73). The whole repetition as one step is the spec's default
REP_INTERRUPTIBLE = false, its decision D7, marked in R309 (log 11); that a fault of one execution is the fault of
the repetition is the model's form of the refusal of R73 (log 19, DESIGN CHOICE). -/
def Obligations.RepeatUnrolls : Prop :=
  ∀ (k : StrKind) (p : RepKind) (s : State) (i : Instr), i = k.byteForm ∨ i = k.wordForm → k.pairs p = true →
    s.pfx.rep = some p → s.cfg.repInterruptible = false →
    (∀ t, exec i { s with pfx := { s.pfx with rep := none } } = .next t →
      ∃ u, u = { t with pfx := s.pfx, regs := { t.regs with cx := t.regs.cx - 1 } } ∧
        exec i s = if k.goesOn p u then exec i u else .next u) ∧
    (∀ f, exec i { s with pfx := { s.pfx with rep := none } } = .fault f → exec i s = .fault f)

/-- With all memory declared a repetition ends (REP_INTERRUPTIBLE false), or makes one iteration per step (true)
(47_prefixes R304, 47_prefixes R305, 47_prefixes R306, 44_string R238, 47_prefixes R309). REP_INTERRUPTIBLE is the
parameter of the spec's decision D7, marked in R309; one iteration per step, and the mark, are the model's form of
its true value (log 11, DESIGN CHOICE). -/
def Obligations.RepeatCompletes : Prop :=
  ∀ (k : StrKind) (p : RepKind) (s : State) (i : Instr) (size : Nat),
    i = k.byteForm ∧ size = 1 ∨ i = k.wordForm ∧ size = 2 → k.pairs p = true → s.pfx.rep = some p → s.fullyMapped →
    ∃ (t : State) (m : Nat), exec i s = .next t ∧ 1 ≤ m ∧ m ≤ 2 ^ 16 ∧
      t.regs.cx = s.regs.cx - BitVec.ofNat 16 m ∧
      (s.cfg.repInterruptible = false → k.goesOn p t = false ∧ t.pause = s.pause ∧
        (k.testsZf = false → t.regs.cx = 0 ∧ (s.regs.cx ≠ 0 → m = s.regs.cx.toNat))) ∧
      (s.cfg.repInterruptible = true → m = 1 ∧ t.pause = if k.goesOn p t then .repeating i else s.pause) ∧
      (k.testsZf = false → t.flags = s.flags) ∧
      t.regs.si = (k.advanced s size m).regs.si ∧ t.regs.di = (k.advanced s size m).regs.di ∧
      (k ≠ .lods → t.regs.ax = s.regs.ax) ∧ t.regs.bx = s.regs.bx ∧ t.regs.dx = s.regs.dx ∧ t.regs.bp = s.regs.bp ∧
      t.regs.sp = s.regs.sp

/-- With REP_INTERRUPTIBLE, one iteration per step; an accepted NMI saves the address of the first prefix byte
(47_prefixes R309, 60_exceptions R344, 92_eei_decisions D7). One iteration per step, the next one without a new
fetch, and the mark that carries the instruction are the model's choice (log 11, DESIGN CHOICE, unsafe); the saved
address is the spec's decision D7. That a taken transfer drops what was fetched ahead is presumed (G13, log 28);
with PREFETCH_DEPTH 0 there is nothing to drop. -/
def Obligations.RepeatInterruptible : Prop :=
  (∀ (k : StrKind) (p : RepKind) (s t : State) (i : Instr), i = k.byteForm ∨ i = k.wordForm → k.pairs p = true →
    s.pfx.rep = some p → s.cfg.repInterruptible = true →
    exec i { s with pfx := { s.pfx with rep := none } } = .next t →
    ∃ u, u = { t with pfx := s.pfx, regs := { t.regs with cx := t.regs.cx - 1 } } ∧
      exec i s = .next (if k.goesOn p u then { u with pause := .repeating i } else u)) ∧
  (∀ (s : State) (i : Instr), s.halted = false → s.pause = .repeating i →
    step s = atBoundary true (exec i { s with pause := .none })) ∧
  (∀ (s : State) (i : Instr) (e : Inputs) (es : List Inputs), s.pause = .repeating i → s.inputs = e :: es →
    e.reset = false → e.nmi = true → s.nmiBlocked = false → s.canEnter 2 →
    s.boundary true = .ok { ({ s with inputs := es }).entered 2 s.segs.cs s.instrStart with
      nmiBlocked := true, pause := .none, pfx := Prefixes.none })

/-- Each prefix is recorded for the instruction that follows; a second one of its group is refused (30_encoding R85,
30_encoding R86, 30_encoding R99, 47_prefixes R300, 47_prefixes R302). That a prefix is an instruction of its own
that records itself in the state is the model's form of the decoding loop (log 13, DESIGN CHOICE); that LOCK# is put
out, as an event of the model's list, when the prefix is recorded is the model's choice (log 7, DESIGN CHOICE). -/
def Obligations.PrefixRecording : Prop :=
  ∀ s : State,
    (s.pfx.seg = none →
      exec .segEs s = .next { s with pfx := { s.pfx with seg := some .es } } ∧
      exec .segCs s = .next { s with pfx := { s.pfx with seg := some .cs } } ∧
      exec .segSs s = .next { s with pfx := { s.pfx with seg := some .ss } } ∧
      exec .segDs s = .next { s with pfx := { s.pfx with seg := some .ds } }) ∧
    (s.pfx.lock = false → exec .lock s = .next { s with pfx := { s.pfx with lock := true }, outputs := .lock :: s.outputs }) ∧
    (s.pfx.rep = none →
      exec .rep s = .next { s with pfx := { s.pfx with rep := some .rep } } ∧
      exec .repne s = .next { s with pfx := { s.pfx with rep := some .repne } }) ∧
    ∀ i, (i = .segEs ∨ i = .segCs ∨ i = .segSs ∨ i = .segDs) ∧ s.pfx.seg ≠ none ∨ i = .lock ∧ s.pfx.lock = true ∨
      (i = .rep ∨ i = .repne) ∧ s.pfx.rep ≠ none → exec i s = .refused .prefixGroupRepeated

/-- LOCK is accepted exactly before the opcodes that R303 lists, a repeat prefix exactly in the pairs of R307
(47_prefixes R303, 47_prefixes R304, 47_prefixes R307). Refusing LOCK and repeat prefixes outside their lists, and
accepting LOCK before the register forms, is the spec's decision D18, marked in R303 and R307 (log 4); that the step
checks it and not exec is the model's choice (log 18, DESIGN CHOICE). -/
def Obligations.PrefixLegality : Prop :=
  ∀ (p : Prefixes) (i : Instr), i.wf = true → i.isPrefix = false →
    (prefixRefusal p i = none ↔
      (p.lock = true → lockOpcode ((encode i).headD 0) ((encode i).tail.headD 0) = true) ∧
      ∀ r, p.rep = some r → ∃ k : StrKind, k.pairs r = true ∧ (i = k.byteForm ∨ i = k.wordForm))

/-- When the bytes fetched from CS:IP on encode an instruction, the step is its meaning there, then the boundary
(10_state R17, 30_encoding R99, 60_exceptions R340, 20_memory R70). That all bytes are memory's at the step with
PREFETCH_DEPTH 0 is the spec's decision D3, marked in R70; how bytes come to be fetched ahead with another depth is
the model's choice (log 12, DESIGN CHOICE, unsafe); the offset modulo 2^16 is the spec's decision D37, marked in R17
(log 4); IP already past the bytes is log 17 (DESIGN CHOICE). -/
def Obligations.StepRunsInstruction : Prop :=
  ∀ (s : State) (i : Instr), s.atFetch → i.wf = true → i.isPrefix = false → s.bytesAt (encode i) →
    ∃ (q : List Byte) (n : Nat), s.aheadPast (encode i) q ∧ (s.cfg.prefetchDepth = 0 → n = s.draws) ∧
      step s = atBoundary true (exec i { s with
        instrStart := s.ip, tfAtStart := s.flags.TF, pfx := Prefixes.none, pause := .none
        ip := s.ip + BitVec.ofNat 16 (encode i).length, ahead := q, draws := n })

/-- Prefixes in any order, one of each group, belong to the instruction that follows; two of a group are refused
(30_encoding R86, 30_encoding R99, 47_prefixes R303, 47_prefixes R307, 47_prefixes R308, 10_state R17, 20_memory
R70). Any order is the spec's decision D27, marked in R86, the refusals by R303 and R307 its decision D18 (log 4);
prefixes as instructions that record themselves are log 13, LOCK# put out then log 7, the check by the step log 18,
bytes fetched ahead log 12, IP past the bytes log 17 (all DESIGN CHOICE). -/
def Obligations.StepCollectsPrefixes : Prop :=
  ∀ (s : State) (ps : List Instr), s.atFetch → (∀ q, q ∈ ps → q.isPrefix = true) →
    ((ps.map prefixGroup).Nodup → ∀ i : Instr, i.wf = true → i.isPrefix = false →
      s.bytesAt (ps.flatMap encode ++ encode i) →
      ∃ (q : List Byte) (n : Nat), s.aheadPast (ps.flatMap encode ++ encode i) q ∧
        (s.cfg.prefetchDepth = 0 → n = s.draws) ∧
        step s = match prefixRefusal (collected ps) i with
          | some r => .refused r
          | none => atBoundary true (exec i { s with
            instrStart := s.ip, tfAtStart := s.flags.TF, pfx := collected ps, pause := .none
            outputs := if (collected ps).lock then .lock :: s.outputs else s.outputs
            ip := s.ip + BitVec.ofNat 16 (ps.length + (encode i).length), ahead := q, draws := n })) ∧
    (¬(ps.map prefixGroup).Nodup → s.bytesAt (ps.flatMap encode) → step s = .refused .prefixGroupRepeated)

/-- The boundary serves NMI before the maskable request before the trace, one entry, against the state left before
(60_exceptions R326, 60_exceptions R334, 60_exceptions R340, 60_exceptions R341, 60_exceptions R342,
46_processor_control R289). The condition of the trace is the spec's decision D9 (R326), one entry and the dropped
trace D31 (R334), no interrupt while WAIT waits D22 (R289; log 15), all log 4; the idle sample when the list has
ended is the model's (log 5, DESIGN CHOICE), and INTA's event its record (log 7). That a taken transfer drops what
was fetched ahead is presumed (G13, log 28); with PREFETCH_DEPTH 0 there is nothing to drop. -/
def Obligations.BoundaryOrder : Prop :=
  ∀ (s u : State) (e : Inputs) (trace : Bool), e = s.inputs.headD Inputs.idle → u = { s with inputs := s.inputs.tail } →
    e.reset = false →
    (s.pause.isWaiting = true → s.boundary trace = .ok { u with pfx := Prefixes.none }) ∧
    (s.pause.isWaiting = false →
      (e.nmi = true → s.nmiBlocked = false → s.canEnter 2 → s.boundary trace =
        .ok { u.entered 2 s.segs.cs s.resumeIp with nmiBlocked := true, pause := .none, pfx := Prefixes.none }) ∧
      ((e.nmi = true → s.nmiBlocked = true) →
        (∀ n, e.intr = some n → s.flags.IF = true → s.canEnter n → s.boundary trace =
          .ok { ({ u with outputs := .intAck n :: s.outputs }).entered n s.segs.cs s.resumeIp with
            pause := .none, pfx := Prefixes.none }) ∧
        ((e.intr = none ∨ s.flags.IF = false) →
          (trace = true → s.tfAtStart = true → s.flags.TF = true → s.pause = .none → s.canEnter 1 → s.boundary trace =
            .ok { u.entered 1 s.segs.cs s.ip with pfx := Prefixes.none }) ∧
          ((trace = true → s.tfAtStart = true → s.flags.TF = true → s.pause ≠ .none) →
            (s.pause = .none → s.boundary trace = .ok { u with pfx := Prefixes.none }) ∧
            (s.pause ≠ .none → s.boundary trace = .ok u)))))

/-- While halted nothing is fetched: NMI, or an interrupt with IF set, wakes; otherwise the state does not change
(46_processor_control R288, 60_exceptions R343, 10_state R34). That a halted step examines no trace is deduced from
D22 and R326 (log 27, DEDUCED); the idle sample when the list of inputs has ended is the model's (log 5, DESIGN
CHOICE). That a taken transfer drops what was fetched ahead is presumed (G13, log 28); with PREFETCH_DEPTH 0 there
is nothing to drop. -/
def Obligations.HaltedStep : Prop :=
  ∀ (s u : State) (e : Inputs), s.halted = true → s.pause = .none → s.pfx = Prefixes.none →
    e = s.inputs.headD Inputs.idle → u = { s with inputs := s.inputs.tail } → e.reset = false →
    (e.nmi = true ∧ s.nmiBlocked = false → s.canEnter 2 →
      step s = .next { u.entered 2 s.segs.cs s.ip with nmiBlocked := true } ∧ (u.entered 2 s.segs.cs s.ip).halted = false) ∧
    (¬(e.nmi = true ∧ s.nmiBlocked = false) →
      (∀ n, e.intr = some n → s.flags.IF = true → s.canEnter n →
        step s = .next (({ u with outputs := .intAck n :: s.outputs }).entered n s.segs.cs s.ip)) ∧
      ((e.intr = none ∨ s.flags.IF = false) → step s = .next u))

/-- The reset signal at a boundary puts the listed registers at their reset values and leaves memory alone (70_reset
R370, 70_reset R371, 10_state R37, 46_processor_control R288). nmiBlocked = false after reset is the spec's decision
D24, marked in R37 and R371 (log 4); that reset is examined first, and at boundaries, is the model's (log 25, DESIGN
CHOICE); that nothing is left fetched ahead is log 28 (PRESUMED). -/
def Obligations.ResetEvent : Prop :=
  ∀ (s : State) (e : Inputs) (es : List Inputs) (trace : Bool), s.inputs = e :: es → e.reset = true →
    ∃ t, s.boundary trace = .ok t ∧ t.flags.toWord = 0xF002 ∧ t.segs = ⟨0, 0xFFFF, 0, 0⟩ ∧ t.ip = 0 ∧
      t.halted = false ∧ t.nmiBlocked = false ∧ t.pause = .none ∧ t.pfx = Prefixes.none ∧ t.ahead = [] ∧
      t.mem = s.mem ∧ t.cfg = s.cfg ∧ t.outputs = s.outputs ∧ t.inputs = es ∧ (s.halted = true → step s = .next t)

/-- The state right after reset: FLAGS, CS, IP, DS, SS, ES, not halted, first fetch at FFFF0h, good memory (10_state
R37, 70_reset R371, 92_eei_decisions D3). nmiBlocked = false is the spec's decision D24, marked in R37 and R371 (log
4); the canonical memory, nothing listed, is log 2 (DESIGN CHOICE); PREFETCH_DEPTH 0 is the spec's default (D3). -/
def Obligations.ResetState : Prop :=
  State.reset.flags.toWord = 0xF002 ∧ State.reset.segs.cs = 0xFFFF ∧ State.reset.ip = 0 ∧ State.reset.segs.ds = 0 ∧
    State.reset.segs.ss = 0 ∧ State.reset.segs.es = 0 ∧ State.reset.halted = false ∧ State.reset.nmiBlocked = false ∧
    phys State.reset.segs.cs State.reset.ip = 0xFFFF0 ∧ State.reset.atFetch ∧ State.reset.memOk ∧
    State.reset.ahead = [] ∧ State.reset.cfg.prefetchDepth = 0

/-- With all memory declared every instruction but the unused ones runs; an access to an undeclared address stops
(20_memory R57, 20_memory R73, 60_exceptions R336, 60_exceptions R360, 30_encoding R86, 30_encoding R103,
92_eei_decisions D4). That an undeclared access stops is the spec's decision D4, marked in R73, a fault with its
address the model's form of it (log 19, DESIGN CHOICE); the refusals are R103 with D6 and R86; that exec does not
look at a prefix the step would refuse is log 18 (DESIGN CHOICE). -/
def Obligations.EveryInstructionCompletes : Prop :=
  (∀ (s : State) (i : Instr), s.fullyMapped → i.isPrefix = false → (∀ op next, i ≠ .unused op next) →
    ∃ t, exec i s = .next t) ∧
  (∀ (s : State) (i : Instr) (f : Fault), exec i s = .fault f → ∃ a, f = .undeclaredAddress a ∧ s.declares a = false) ∧
  (∀ (s : State) (i : Instr) (r : Refusal), exec i s = .refused r →
    (∃ op next, i = .unused op next) ∨ i.isPrefix = true ∧ r = .prefixGroupRepeated) ∧
  (∀ (s : State) (m : Rm8), ¬s.hasRm8 m → ∃ a, a ∈ s.operandAddrs8 m ∧ s.declares a = false ∧
    ∀ r, exec (.movR8Rm8 r m) s = .fault (.undeclaredAddress a) ∧ exec (.movRm8R8 m r) s = .fault (.undeclaredAddress a) ∧
      exec (.addR8Rm8 r m) s = .fault (.undeclaredAddress a) ∧ exec (.addRm8R8 m r) s = .fault (.undeclaredAddress a)) ∧
  (∀ (s : State) (m : Rm16), ¬s.hasRm16 m → ∃ a, a ∈ s.operandAddrs16 m ∧ s.declares a = false ∧
    ∀ r, exec (.movR16Rm16 r m) s = .fault (.undeclaredAddress a) ∧
      exec (.movRm16R16 m r) s = .fault (.undeclaredAddress a) ∧
      exec (.addR16Rm16 r m) s = .fault (.undeclaredAddress a) ∧
      exec (.addRm16R16 m r) s = .fault (.undeclaredAddress a)) ∧
  (∀ s : State, ¬s.canPush 1 → ∃ a, a ∈ s.pushAddrs 1 ∧ s.declares a = false ∧
    (∀ r, exec (.pushR16 r) s = .fault (.undeclaredAddress a)) ∧ exec .pushf s = .fault (.undeclaredAddress a)) ∧
  (∀ s : State, ¬s.canPop 1 → ∃ a, a ∈ s.wordAddrs s.segs.ss s.regs.sp ∧ s.declares a = false ∧
    (∀ r, exec (.popR16 r) s = .fault (.undeclaredAddress a)) ∧ exec .popf s = .fault (.undeclaredAddress a)) ∧
  (∀ (s : State) (n : Byte), ¬s.canEnter n → ∃ a, s.declares a = false ∧ exec (.int n) s = .fault (.undeclaredAddress a) ∧
    (a ∈ s.pushAddrs 3 ∨ 4 * n.toNat ≤ a ∧ a < 4 * n.toNat + 4)) ∧
  (∀ (k : StrKind) (s : State), s.pfx.rep = none →
    (¬k.hasByte s → ∃ a, s.declares a = false ∧ exec k.byteForm s = .fault (.undeclaredAddress a)) ∧
    (¬k.hasWord s → ∃ a, s.declares a = false ∧ exec k.wordForm s = .fault (.undeclaredAddress a))) ∧
  (∀ s : State, s.atFetch → s.ahead = [] → s.declares (phys s.segs.cs s.ip) = false →
    step s = .fault (.undeclaredAddress (phys s.segs.cs s.ip)))

/-- Every step keeps the canonical memory, the parameters, every byte that is not RAM, and the bound on fetching
ahead (20_memory R50, 20_memory R73, 92_eei_decisions D4, 20_memory R70). The canonical form is the model's (log 2),
ROM that ignores writes R73's; the bound on what is fetched ahead is the model's reading of PREFETCH_DEPTH (log 12,
DESIGN CHOICE): with depth 0 nothing ever is. -/
def Obligations.StepKeepsGoodState : Prop :=
  ∀ s t : State, s.memOk → step s = .next t →
    t.memOk ∧ t.cfg = s.cfg ∧ (∀ a, ¬s.isRam a → t.mem.read a = s.mem.read a) ∧
      (s.ahead.length ≤ s.cfg.prefetchDepth → t.ahead.length ≤ s.cfg.prefetchDepth)

/-- No instruction changes a general or segment register outside its footprint; CS only by far transfers and
interrupts (10_state R13, 10_state R15). -/
def Obligations.RegisterFrame : Prop :=
  ∀ (i : Instr) (s t : State), exec i s = .next t →
    (∀ r, r ∉ i.regsWritten → t.reg16 r = s.reg16 r) ∧ (∀ q, q ∉ i.segsWritten → t.sreg q = s.sreg q)

/-- No instruction changes a flag that its row of the flag table leaves alone (10_state R31). -/
def Obligations.FlagFrame : Prop :=
  ∀ (i : Instr) (s t : State), exec i s = .next t → ∀ f, f ∉ i.flagsWritten → t.flags.get f = s.flags.get f

/-- Every instruction leaves every byte of memory as it was, outside the bytes it stores to (30_encoding R96,
20_memory R62, 44_string R237, 60_exceptions R330). -/
def Obligations.MemoryFrame : Prop :=
  ∀ (i : Instr) (s t : State), s.memOk → exec i s = .next t → ∀ a, a ∉ s.stores i → t.mem.read a = s.mem.read a

/-- Who may change TF, IF, the NMI latch, the halt state, the prefixes, what is fetched ahead and what is put out
(10_state R29, 10_state R30, 10_state R33, 10_state R34, 10_state R36, 60_exceptions R341). That a taken transfer
drops what was fetched ahead is presumed (G13, log 28); with PREFETCH_DEPTH 0 there is nothing to drop. -/
def Obligations.ControlStateFrame : Prop :=
  ∀ (i : Instr) (s t : State), exec i s = .next t →
    (t.flags.TF = true → s.flags.TF = true ∨ i = .popf ∨ i = .iret) ∧
    (t.flags.IF = true → s.flags.IF = true ∨ i = .sti ∨ i = .popf ∨ i = .iret) ∧
    (t.nmiBlocked = if i = .iret then false else s.nmiBlocked) ∧
    (t.halted = true → s.halted = true ∨ i = .hlt) ∧
    (i.isPrefix = false → t.pfx = s.pfx) ∧
    (takesAnswer i = false → t.ioReplies = s.ioReplies) ∧
    (∃ es, t.outputs = es ++ s.outputs ∧ (putsEvent i = false → es = [])) ∧
    (t.ahead = s.ahead ∨ t.ahead = [] ∧ mayTransfer i = true) ∧
    t.instrStart = s.instrStart ∧ t.tfAtStart = s.tfAtStart ∧ t.cfg = s.cfg ∧ t.inputs = s.inputs
end

