-- ==== Sys2Proof/Laws/Memory.lean ====
section
/-! SUPPORT. Memory: a read after a write, and the canonical form. -/

namespace Sys2Proof.Machine

theorem Memory.wfFrom_mono {lo lo' : Nat} (m : Memory) (h : lo' ≤ lo) (w : Memory.wfFrom lo m = true) :
    Memory.wfFrom lo' m = true := by
  cases m with
  | nil => rfl
  | cons c m =>
    obtain ⟨k, v⟩ := c
    simp only [Memory.wfFrom, Bool.and_eq_true, decide_eq_true_eq] at w ⊢
    exact ⟨⟨⟨by omega, w.1.1.2⟩, w.1.2⟩, w.2⟩

/-- Below the first listed address everything is unlisted. -/
theorem Memory.read_of_lt {lo : Nat} (m : Memory) (w : Memory.wfFrom lo m = true) {a : Nat} (h : a < lo) :
    m.read a = Config.unlistedByte := by
  cases m with
  | nil => rfl
  | cons c m =>
    obtain ⟨k, v⟩ := c
    simp only [Memory.wfFrom, Bool.and_eq_true, decide_eq_true_eq] at w
    have : k ≠ a := by omega
    have : a < k := by omega
    simp [Memory.read, *]

/-- A read after a write (canonical memories). -/
theorem Memory.read_write {lo : Nat} (m : Memory) (w : Memory.wfFrom lo m = true) (a x : Nat) (b : Byte) :
    (m.write a b).read x = if x = a then b else m.read x := by
  induction m generalizing lo with
  | nil =>
    rcases eq_or_ne x a with rfl | hx <;> by_cases hb : b = Config.unlistedByte <;>
      simp [Memory.write, Memory.read, *, Ne.symm]
  | cons c m ih =>
    obtain ⟨k, v⟩ := c
    simp only [Memory.wfFrom, Bool.and_eq_true, decide_eq_true_eq] at w
    obtain ⟨⟨⟨_, _⟩, _⟩, wt⟩ := w
    by_cases h1 : k < a
    · simp only [Memory.write, h1, if_true, Memory.read]
      by_cases hkx : k = x
      · have : x ≠ a := by omega
        simp [hkx, this]
      · by_cases hxk : x < k
        · have : x ≠ a := by omega
          simp [hkx, hxk, this]
        · simp [hkx, hxk, ih wt]
    · by_cases h2 : k = a
      · subst h2
        simp only [Memory.write, lt_irrefl, if_false, if_true]
        by_cases hb : b = Config.unlistedByte
        · subst hb
          simp only [if_true]
          by_cases hx : x = k
          · subst hx
            simp [Memory.read_of_lt m wt (Nat.lt_succ_self x)]
          · by_cases hxk : x < k
            · rw [Memory.read_of_lt m wt (Nat.lt_succ_of_lt hxk)]
              simp [Memory.read, hx, hxk, Ne.symm hx]
            · simp [Memory.read, hx, hxk, Ne.symm hx]
        · simp only [hb, if_false, Memory.read]
          by_cases hx : x = k
          · simp [hx]
          · simp [hx, Ne.symm hx]
      · have hlt : a < k := by omega
        simp only [Memory.write, h1, h2, if_false]
        by_cases hb : b = Config.unlistedByte
        · subst hb
          simp only [if_true]
          by_cases hx : x = a
          · subst hx
            simp [Memory.read, h2, hlt]
          · simp [hx]
        · simp only [hb, if_false]
          by_cases hx : x = a
          · simp [Memory.read, hx]
          · by_cases hxa : x < a
            · have : k ≠ x := by omega
              have : x < k := by omega
              simp [Memory.read, Ne.symm hx, *]
            · simp [Memory.read, hx, Ne.symm hx, hxa]

theorem Memory.wfFrom_write {lo : Nat} (m : Memory) (w : Memory.wfFrom lo m = true) (a : Nat) (b : Byte) (hlo : lo ≤ a)
    (ha : a < 2 ^ 20) : Memory.wfFrom lo (m.write a b) = true := by
  induction m generalizing lo with
  | nil =>
    by_cases hb : b = Config.unlistedByte
    · simp [Memory.write, hb, Memory.wfFrom]
    · simp [Memory.write, hb, Memory.wfFrom, hlo, Nat.reducePow] at ha ⊢
      exact ha
  | cons c m ih =>
    obtain ⟨k, v⟩ := c
    have w' := w
    simp only [Memory.wfFrom, Bool.and_eq_true, decide_eq_true_eq] at w
    obtain ⟨⟨⟨h0, hk⟩, hv⟩, wt⟩ := w
    by_cases h1 : k < a
    · simp only [Memory.write, h1, if_true, Memory.wfFrom, Bool.and_eq_true, decide_eq_true_eq]
      exact ⟨⟨⟨h0, hk⟩, hv⟩, ih wt h1⟩
    · by_cases h2 : k = a
      · subst h2
        simp only [Memory.write, lt_irrefl, if_false, if_true]
        by_cases hb : b = Config.unlistedByte
        · simp only [hb, if_true]
          exact Memory.wfFrom_mono m (by omega) wt
        · simp only [hb, if_false, Memory.wfFrom, Bool.and_eq_true, decide_eq_true_eq]
          exact ⟨⟨⟨h0, hk⟩, hb⟩, wt⟩
      · simp only [Memory.write, h1, h2, if_false]
        by_cases hb : b = Config.unlistedByte
        · simpa only [hb, if_true] using w'
        · simp only [hb, if_false, Memory.wfFrom, Bool.and_eq_true, decide_eq_true_eq]
          exact ⟨⟨⟨hlo, ha⟩, hb⟩, ⟨⟨⟨by omega, hk⟩, hv⟩, wt⟩⟩

/-- A write keeps the canonical form. -/
theorem Memory.wf_write (m : Memory) (w : m.wf = true) (a : Nat) (b : Byte) (ha : a < 2 ^ 20) :
    (m.write a b).wf = true :=
  Memory.wfFrom_write m w a b (Nat.zero_le a) ha

/-- A canonical memory with the same bytes is the same list. -/
theorem Memory.ext_of_wfFrom {lo : Nat} (m m' : Memory) (w : Memory.wfFrom lo m = true) (w' : Memory.wfFrom lo m' = true)
    (h : ∀ a, m.read a = m'.read a) : m = m' := by
  induction m generalizing lo m' with
  | nil =>
    cases m' with
    | nil => rfl
    | cons c m' =>
      obtain ⟨k, v⟩ := c
      simp only [Memory.wfFrom, Bool.and_eq_true, decide_eq_true_eq] at w'
      have := h k
      simp [Memory.read] at this
      exact absurd this.symm w'.1.2
  | cons c m ih =>
    obtain ⟨k, v⟩ := c
    have w0 := w
    simp only [Memory.wfFrom, Bool.and_eq_true, decide_eq_true_eq] at w
    cases m' with
    | nil =>
      have := h k
      simp [Memory.read] at this
      exact absurd this w.1.2
    | cons c' m' =>
      obtain ⟨k', v'⟩ := c'
      simp only [Memory.wfFrom, Bool.and_eq_true, decide_eq_true_eq] at w'
      have hk : k = k' := by
        by_contra hne
        rcases Nat.lt_or_gt_of_ne hne with hlt | hlt
        · have := h k
          simp [Memory.read, Ne.symm hne, hlt] at this
          exact w.1.2 this
        · have := h k'
          simp [Memory.read, hne, hlt] at this
          exact w'.1.2 this.symm
      subst hk
      have hv : v = v' := by simpa [Memory.read] using h k
      subst hv
      have : m = m' := by
        refine ih m' w.2 w'.2 fun a => ?_
        by_cases ha : k < a
        · have := h a
          have h1 : k ≠ a := by omega
          have h2 : ¬ a < k := by omega
          simpa [Memory.read, h1, h2] using this
        · rw [Memory.read_of_lt m w.2 (by omega), Memory.read_of_lt m' w'.2 (by omega)]
      rw [this]

end Sys2Proof.Machine
end

