-- ==== Sys2Proof/Laws/State.lean ====
section
/-! SUPPORT. One lemma per field per update of State, so that no proof unfolds an update. -/

namespace Sys2Proof.Machine

variable (s : State)

@[simp] theorem State.setReg16_regs (r : Reg16) (v : Word) : (s.setReg16 r v).regs = s.regs.set r v := rfl
@[simp] theorem State.setReg16_segs (r : Reg16) (v : Word) : (s.setReg16 r v).segs = s.segs := rfl
@[simp] theorem State.setReg16_ip (r : Reg16) (v : Word) : (s.setReg16 r v).ip = s.ip := rfl
@[simp] theorem State.setReg16_flags (r : Reg16) (v : Word) : (s.setReg16 r v).flags = s.flags := rfl
@[simp] theorem State.setReg16_nmiBlocked (r : Reg16) (v : Word) : (s.setReg16 r v).nmiBlocked = s.nmiBlocked := rfl
@[simp] theorem State.setReg16_halted (r : Reg16) (v : Word) : (s.setReg16 r v).halted = s.halted := rfl
@[simp] theorem State.setReg16_tfAtStart (r : Reg16) (v : Word) : (s.setReg16 r v).tfAtStart = s.tfAtStart := rfl
@[simp] theorem State.setReg16_instrStart (r : Reg16) (v : Word) : (s.setReg16 r v).instrStart = s.instrStart := rfl
@[simp] theorem State.setReg16_pfx (r : Reg16) (v : Word) : (s.setReg16 r v).pfx = s.pfx := rfl
@[simp] theorem State.setReg16_pause (r : Reg16) (v : Word) : (s.setReg16 r v).pause = s.pause := rfl
@[simp] theorem State.setReg16_ahead (r : Reg16) (v : Word) : (s.setReg16 r v).ahead = s.ahead := rfl
@[simp] theorem State.setReg16_mem (r : Reg16) (v : Word) : (s.setReg16 r v).mem = s.mem := rfl
@[simp] theorem State.setReg16_cfg (r : Reg16) (v : Word) : (s.setReg16 r v).cfg = s.cfg := rfl
@[simp] theorem State.setReg16_inputs (r : Reg16) (v : Word) : (s.setReg16 r v).inputs = s.inputs := rfl
@[simp] theorem State.setReg16_ioReplies (r : Reg16) (v : Word) : (s.setReg16 r v).ioReplies = s.ioReplies := rfl
@[simp] theorem State.setReg16_outputs (r : Reg16) (v : Word) : (s.setReg16 r v).outputs = s.outputs := rfl
@[simp] theorem State.setReg16_draws (r : Reg16) (v : Word) : (s.setReg16 r v).draws = s.draws := rfl

@[simp] theorem State.setSreg_regs (r : SReg) (v : Word) : (s.setSreg r v).regs = s.regs := rfl
@[simp] theorem State.setSreg_segs (r : SReg) (v : Word) : (s.setSreg r v).segs = s.segs.set r v := rfl
@[simp] theorem State.setSreg_ip (r : SReg) (v : Word) : (s.setSreg r v).ip = s.ip := rfl
@[simp] theorem State.setSreg_flags (r : SReg) (v : Word) : (s.setSreg r v).flags = s.flags := rfl
@[simp] theorem State.setSreg_nmiBlocked (r : SReg) (v : Word) : (s.setSreg r v).nmiBlocked = s.nmiBlocked := rfl
@[simp] theorem State.setSreg_halted (r : SReg) (v : Word) : (s.setSreg r v).halted = s.halted := rfl
@[simp] theorem State.setSreg_tfAtStart (r : SReg) (v : Word) : (s.setSreg r v).tfAtStart = s.tfAtStart := rfl
@[simp] theorem State.setSreg_instrStart (r : SReg) (v : Word) : (s.setSreg r v).instrStart = s.instrStart := rfl
@[simp] theorem State.setSreg_pfx (r : SReg) (v : Word) : (s.setSreg r v).pfx = s.pfx := rfl
@[simp] theorem State.setSreg_pause (r : SReg) (v : Word) : (s.setSreg r v).pause = s.pause := rfl
@[simp] theorem State.setSreg_ahead (r : SReg) (v : Word) : (s.setSreg r v).ahead = s.ahead := rfl
@[simp] theorem State.setSreg_mem (r : SReg) (v : Word) : (s.setSreg r v).mem = s.mem := rfl
@[simp] theorem State.setSreg_cfg (r : SReg) (v : Word) : (s.setSreg r v).cfg = s.cfg := rfl
@[simp] theorem State.setSreg_inputs (r : SReg) (v : Word) : (s.setSreg r v).inputs = s.inputs := rfl
@[simp] theorem State.setSreg_ioReplies (r : SReg) (v : Word) : (s.setSreg r v).ioReplies = s.ioReplies := rfl
@[simp] theorem State.setSreg_outputs (r : SReg) (v : Word) : (s.setSreg r v).outputs = s.outputs := rfl
@[simp] theorem State.setSreg_draws (r : SReg) (v : Word) : (s.setSreg r v).draws = s.draws := rfl

@[simp] theorem State.setFlags_regs (f : Flags) : (s.setFlags f).regs = s.regs := rfl
@[simp] theorem State.setFlags_segs (f : Flags) : (s.setFlags f).segs = s.segs := rfl
@[simp] theorem State.setFlags_ip (f : Flags) : (s.setFlags f).ip = s.ip := rfl
@[simp] theorem State.setFlags_flags (f : Flags) : (s.setFlags f).flags = f := rfl
@[simp] theorem State.setFlags_nmiBlocked (f : Flags) : (s.setFlags f).nmiBlocked = s.nmiBlocked := rfl
@[simp] theorem State.setFlags_halted (f : Flags) : (s.setFlags f).halted = s.halted := rfl
@[simp] theorem State.setFlags_tfAtStart (f : Flags) : (s.setFlags f).tfAtStart = s.tfAtStart := rfl
@[simp] theorem State.setFlags_instrStart (f : Flags) : (s.setFlags f).instrStart = s.instrStart := rfl
@[simp] theorem State.setFlags_pfx (f : Flags) : (s.setFlags f).pfx = s.pfx := rfl
@[simp] theorem State.setFlags_pause (f : Flags) : (s.setFlags f).pause = s.pause := rfl
@[simp] theorem State.setFlags_ahead (f : Flags) : (s.setFlags f).ahead = s.ahead := rfl
@[simp] theorem State.setFlags_mem (f : Flags) : (s.setFlags f).mem = s.mem := rfl
@[simp] theorem State.setFlags_cfg (f : Flags) : (s.setFlags f).cfg = s.cfg := rfl
@[simp] theorem State.setFlags_inputs (f : Flags) : (s.setFlags f).inputs = s.inputs := rfl
@[simp] theorem State.setFlags_ioReplies (f : Flags) : (s.setFlags f).ioReplies = s.ioReplies := rfl
@[simp] theorem State.setFlags_outputs (f : Flags) : (s.setFlags f).outputs = s.outputs := rfl
@[simp] theorem State.setFlags_draws (f : Flags) : (s.setFlags f).draws = s.draws := rfl

@[simp] theorem State.transfer_regs (v : Word) : (s.transfer v).regs = s.regs := rfl
@[simp] theorem State.transfer_segs (v : Word) : (s.transfer v).segs = s.segs := rfl
@[simp] theorem State.transfer_ip (v : Word) : (s.transfer v).ip = v := rfl
@[simp] theorem State.transfer_flags (v : Word) : (s.transfer v).flags = s.flags := rfl
@[simp] theorem State.transfer_nmiBlocked (v : Word) : (s.transfer v).nmiBlocked = s.nmiBlocked := rfl
@[simp] theorem State.transfer_halted (v : Word) : (s.transfer v).halted = s.halted := rfl
@[simp] theorem State.transfer_tfAtStart (v : Word) : (s.transfer v).tfAtStart = s.tfAtStart := rfl
@[simp] theorem State.transfer_instrStart (v : Word) : (s.transfer v).instrStart = s.instrStart := rfl
@[simp] theorem State.transfer_pfx (v : Word) : (s.transfer v).pfx = s.pfx := rfl
@[simp] theorem State.transfer_pause (v : Word) : (s.transfer v).pause = s.pause := rfl
@[simp] theorem State.transfer_ahead (v : Word) : (s.transfer v).ahead = [] := rfl
@[simp] theorem State.transfer_mem (v : Word) : (s.transfer v).mem = s.mem := rfl
@[simp] theorem State.transfer_cfg (v : Word) : (s.transfer v).cfg = s.cfg := rfl
@[simp] theorem State.transfer_inputs (v : Word) : (s.transfer v).inputs = s.inputs := rfl
@[simp] theorem State.transfer_ioReplies (v : Word) : (s.transfer v).ioReplies = s.ioReplies := rfl
@[simp] theorem State.transfer_outputs (v : Word) : (s.transfer v).outputs = s.outputs := rfl
@[simp] theorem State.transfer_draws (v : Word) : (s.transfer v).draws = s.draws := rfl

@[simp] theorem State.drew_regs (n : Nat) : (s.drew n).regs = s.regs := rfl
@[simp] theorem State.drew_segs (n : Nat) : (s.drew n).segs = s.segs := rfl
@[simp] theorem State.drew_ip (n : Nat) : (s.drew n).ip = s.ip := rfl
@[simp] theorem State.drew_flags (n : Nat) : (s.drew n).flags = s.flags := rfl
@[simp] theorem State.drew_nmiBlocked (n : Nat) : (s.drew n).nmiBlocked = s.nmiBlocked := rfl
@[simp] theorem State.drew_halted (n : Nat) : (s.drew n).halted = s.halted := rfl
@[simp] theorem State.drew_tfAtStart (n : Nat) : (s.drew n).tfAtStart = s.tfAtStart := rfl
@[simp] theorem State.drew_instrStart (n : Nat) : (s.drew n).instrStart = s.instrStart := rfl
@[simp] theorem State.drew_pfx (n : Nat) : (s.drew n).pfx = s.pfx := rfl
@[simp] theorem State.drew_pause (n : Nat) : (s.drew n).pause = s.pause := rfl
@[simp] theorem State.drew_ahead (n : Nat) : (s.drew n).ahead = s.ahead := rfl
@[simp] theorem State.drew_mem (n : Nat) : (s.drew n).mem = s.mem := rfl
@[simp] theorem State.drew_cfg (n : Nat) : (s.drew n).cfg = s.cfg := rfl
@[simp] theorem State.drew_inputs (n : Nat) : (s.drew n).inputs = s.inputs := rfl
@[simp] theorem State.drew_ioReplies (n : Nat) : (s.drew n).ioReplies = s.ioReplies := rfl
@[simp] theorem State.drew_outputs (n : Nat) : (s.drew n).outputs = s.outputs := rfl
@[simp] theorem State.drew_draws (n : Nat) : (s.drew n).draws = s.draws + n := rfl

@[simp] theorem State.emit_regs (e : BusEvent) : (s.emit e).regs = s.regs := rfl
@[simp] theorem State.emit_segs (e : BusEvent) : (s.emit e).segs = s.segs := rfl
@[simp] theorem State.emit_ip (e : BusEvent) : (s.emit e).ip = s.ip := rfl
@[simp] theorem State.emit_flags (e : BusEvent) : (s.emit e).flags = s.flags := rfl
@[simp] theorem State.emit_nmiBlocked (e : BusEvent) : (s.emit e).nmiBlocked = s.nmiBlocked := rfl
@[simp] theorem State.emit_halted (e : BusEvent) : (s.emit e).halted = s.halted := rfl
@[simp] theorem State.emit_tfAtStart (e : BusEvent) : (s.emit e).tfAtStart = s.tfAtStart := rfl
@[simp] theorem State.emit_instrStart (e : BusEvent) : (s.emit e).instrStart = s.instrStart := rfl
@[simp] theorem State.emit_pfx (e : BusEvent) : (s.emit e).pfx = s.pfx := rfl
@[simp] theorem State.emit_pause (e : BusEvent) : (s.emit e).pause = s.pause := rfl
@[simp] theorem State.emit_ahead (e : BusEvent) : (s.emit e).ahead = s.ahead := rfl
@[simp] theorem State.emit_mem (e : BusEvent) : (s.emit e).mem = s.mem := rfl
@[simp] theorem State.emit_cfg (e : BusEvent) : (s.emit e).cfg = s.cfg := rfl
@[simp] theorem State.emit_inputs (e : BusEvent) : (s.emit e).inputs = s.inputs := rfl
@[simp] theorem State.emit_ioReplies (e : BusEvent) : (s.emit e).ioReplies = s.ioReplies := rfl
@[simp] theorem State.emit_outputs (e : BusEvent) : (s.emit e).outputs = e :: s.outputs := rfl
@[simp] theorem State.emit_draws (e : BusEvent) : (s.emit e).draws = s.draws := rfl

@[simp] theorem State.setReg8_segs (r : Reg8) (v : Byte) : (s.setReg8 r v).segs = s.segs := rfl
@[simp] theorem State.setReg8_ip (r : Reg8) (v : Byte) : (s.setReg8 r v).ip = s.ip := rfl
@[simp] theorem State.setReg8_flags (r : Reg8) (v : Byte) : (s.setReg8 r v).flags = s.flags := rfl
@[simp] theorem State.setReg8_nmiBlocked (r : Reg8) (v : Byte) : (s.setReg8 r v).nmiBlocked = s.nmiBlocked := rfl
@[simp] theorem State.setReg8_halted (r : Reg8) (v : Byte) : (s.setReg8 r v).halted = s.halted := rfl
@[simp] theorem State.setReg8_tfAtStart (r : Reg8) (v : Byte) : (s.setReg8 r v).tfAtStart = s.tfAtStart := rfl
@[simp] theorem State.setReg8_instrStart (r : Reg8) (v : Byte) : (s.setReg8 r v).instrStart = s.instrStart := rfl
@[simp] theorem State.setReg8_pfx (r : Reg8) (v : Byte) : (s.setReg8 r v).pfx = s.pfx := rfl
@[simp] theorem State.setReg8_pause (r : Reg8) (v : Byte) : (s.setReg8 r v).pause = s.pause := rfl
@[simp] theorem State.setReg8_ahead (r : Reg8) (v : Byte) : (s.setReg8 r v).ahead = s.ahead := rfl
@[simp] theorem State.setReg8_mem (r : Reg8) (v : Byte) : (s.setReg8 r v).mem = s.mem := rfl
@[simp] theorem State.setReg8_cfg (r : Reg8) (v : Byte) : (s.setReg8 r v).cfg = s.cfg := rfl
@[simp] theorem State.setReg8_inputs (r : Reg8) (v : Byte) : (s.setReg8 r v).inputs = s.inputs := rfl
@[simp] theorem State.setReg8_ioReplies (r : Reg8) (v : Byte) : (s.setReg8 r v).ioReplies = s.ioReplies := rfl
@[simp] theorem State.setReg8_outputs (r : Reg8) (v : Byte) : (s.setReg8 r v).outputs = s.outputs := rfl
@[simp] theorem State.setReg8_draws (r : Reg8) (v : Byte) : (s.setReg8 r v).draws = s.draws := rfl

/-! ### The operations that write memory change nothing else -/

@[simp] theorem State.put8_regs (a : Nat) (b : Byte) : (s.put8 a b).regs = s.regs := by
  unfold State.put8; split <;> rfl
@[simp] theorem State.put8_segs (a : Nat) (b : Byte) : (s.put8 a b).segs = s.segs := by
  unfold State.put8; split <;> rfl
@[simp] theorem State.put8_ip (a : Nat) (b : Byte) : (s.put8 a b).ip = s.ip := by
  unfold State.put8; split <;> rfl
@[simp] theorem State.put8_flags (a : Nat) (b : Byte) : (s.put8 a b).flags = s.flags := by
  unfold State.put8; split <;> rfl
@[simp] theorem State.put8_nmiBlocked (a : Nat) (b : Byte) : (s.put8 a b).nmiBlocked = s.nmiBlocked := by
  unfold State.put8; split <;> rfl
@[simp] theorem State.put8_halted (a : Nat) (b : Byte) : (s.put8 a b).halted = s.halted := by
  unfold State.put8; split <;> rfl
@[simp] theorem State.put8_tfAtStart (a : Nat) (b : Byte) : (s.put8 a b).tfAtStart = s.tfAtStart := by
  unfold State.put8; split <;> rfl
@[simp] theorem State.put8_instrStart (a : Nat) (b : Byte) : (s.put8 a b).instrStart = s.instrStart := by
  unfold State.put8; split <;> rfl
@[simp] theorem State.put8_pfx (a : Nat) (b : Byte) : (s.put8 a b).pfx = s.pfx := by
  unfold State.put8; split <;> rfl
@[simp] theorem State.put8_pause (a : Nat) (b : Byte) : (s.put8 a b).pause = s.pause := by
  unfold State.put8; split <;> rfl
@[simp] theorem State.put8_ahead (a : Nat) (b : Byte) : (s.put8 a b).ahead = s.ahead := by
  unfold State.put8; split <;> rfl
@[simp] theorem State.put8_cfg (a : Nat) (b : Byte) : (s.put8 a b).cfg = s.cfg := by
  unfold State.put8; split <;> rfl
@[simp] theorem State.put8_inputs (a : Nat) (b : Byte) : (s.put8 a b).inputs = s.inputs := by
  unfold State.put8; split <;> rfl
@[simp] theorem State.put8_ioReplies (a : Nat) (b : Byte) : (s.put8 a b).ioReplies = s.ioReplies := by
  unfold State.put8; split <;> rfl
@[simp] theorem State.put8_outputs (a : Nat) (b : Byte) : (s.put8 a b).outputs = s.outputs := by
  unfold State.put8; split <;> rfl
@[simp] theorem State.put8_draws (a : Nat) (b : Byte) : (s.put8 a b).draws = s.draws := by
  unfold State.put8; split <;> rfl

/-! ### Reads through updates -/

@[simp] theorem State.setSreg_reg16 (q : SReg) (v : Word) (r : Reg16) :
    (s.setSreg q v).reg16 r = s.reg16 r := rfl
@[simp] theorem State.setFlags_reg16 (f : Flags) (r : Reg16) :
    (s.setFlags f).reg16 r = s.reg16 r := rfl
@[simp] theorem State.transfer_reg16 (v : Word) (r : Reg16) :
    (s.transfer v).reg16 r = s.reg16 r := rfl
@[simp] theorem State.drew_reg16 (m : Nat) (r : Reg16) :
    (s.drew m).reg16 r = s.reg16 r := rfl
@[simp] theorem State.emit_reg16 (e : BusEvent) (r : Reg16) :
    (s.emit e).reg16 r = s.reg16 r := rfl
@[simp] theorem State.put8_reg16 (a : Nat) (b : Byte) (r : Reg16) : (s.put8 a b).reg16 r = s.reg16 r := by
  simp [State.reg16, State.reg16]
@[simp] theorem State.setSreg_reg8 (q : SReg) (v : Word) (r : Reg8) :
    (s.setSreg q v).reg8 r = s.reg8 r := rfl
@[simp] theorem State.setFlags_reg8 (f : Flags) (r : Reg8) :
    (s.setFlags f).reg8 r = s.reg8 r := rfl
@[simp] theorem State.transfer_reg8 (v : Word) (r : Reg8) :
    (s.transfer v).reg8 r = s.reg8 r := rfl
@[simp] theorem State.drew_reg8 (m : Nat) (r : Reg8) :
    (s.drew m).reg8 r = s.reg8 r := rfl
@[simp] theorem State.emit_reg8 (e : BusEvent) (r : Reg8) :
    (s.emit e).reg8 r = s.reg8 r := rfl
@[simp] theorem State.put8_reg8 (a : Nat) (b : Byte) (r : Reg8) : (s.put8 a b).reg8 r = s.reg8 r := by
  simp [State.reg8]
@[simp] theorem State.setReg16_sreg (q : Reg16) (v : Word) (r : SReg) :
    (s.setReg16 q v).sreg r = s.sreg r := rfl
@[simp] theorem State.setFlags_sreg (f : Flags) (r : SReg) :
    (s.setFlags f).sreg r = s.sreg r := rfl
@[simp] theorem State.transfer_sreg (v : Word) (r : SReg) :
    (s.transfer v).sreg r = s.sreg r := rfl
@[simp] theorem State.drew_sreg (m : Nat) (r : SReg) :
    (s.drew m).sreg r = s.sreg r := rfl
@[simp] theorem State.emit_sreg (e : BusEvent) (r : SReg) :
    (s.emit e).sreg r = s.sreg r := rfl
@[simp] theorem State.setReg8_sreg (q : Reg8) (v : Byte) (r : SReg) :
    (s.setReg8 q v).sreg r = s.sreg r := rfl
@[simp] theorem State.put8_sreg (a : Nat) (b : Byte) (r : SReg) : (s.put8 a b).sreg r = s.sreg r := by
  simp [State.sreg]
@[simp] theorem State.setReg16_declares (q : Reg16) (v : Word) (a : Nat) :
    (s.setReg16 q v).declares a = s.declares a := rfl
@[simp] theorem State.setSreg_declares (q : SReg) (v : Word) (a : Nat) :
    (s.setSreg q v).declares a = s.declares a := rfl
@[simp] theorem State.setFlags_declares (f : Flags) (a : Nat) :
    (s.setFlags f).declares a = s.declares a := rfl
@[simp] theorem State.transfer_declares (v : Word) (a : Nat) :
    (s.transfer v).declares a = s.declares a := rfl
@[simp] theorem State.drew_declares (m : Nat) (a : Nat) :
    (s.drew m).declares a = s.declares a := rfl
@[simp] theorem State.emit_declares (e : BusEvent) (a : Nat) :
    (s.emit e).declares a = s.declares a := rfl
@[simp] theorem State.setReg8_declares (q : Reg8) (v : Byte) (a : Nat) :
    (s.setReg8 q v).declares a = s.declares a := rfl
@[simp] theorem State.put8_declares (a : Nat) (b : Byte) (x : Nat) : (s.put8 a b).declares x = s.declares x := by
  simp [State.declares]
@[simp] theorem State.setReg16_highAddr (q : Reg16) (v : Word) (g o : Word) :
    (s.setReg16 q v).highAddr g o = s.highAddr g o := rfl
@[simp] theorem State.setSreg_highAddr (q : SReg) (v : Word) (g o : Word) :
    (s.setSreg q v).highAddr g o = s.highAddr g o := rfl
@[simp] theorem State.setFlags_highAddr (f : Flags) (g o : Word) :
    (s.setFlags f).highAddr g o = s.highAddr g o := rfl
@[simp] theorem State.transfer_highAddr (v : Word) (g o : Word) :
    (s.transfer v).highAddr g o = s.highAddr g o := rfl
@[simp] theorem State.drew_highAddr (m : Nat) (g o : Word) :
    (s.drew m).highAddr g o = s.highAddr g o := rfl
@[simp] theorem State.emit_highAddr (e : BusEvent) (g o : Word) :
    (s.emit e).highAddr g o = s.highAddr g o := rfl
@[simp] theorem State.setReg8_highAddr (q : Reg8) (v : Byte) (g o : Word) :
    (s.setReg8 q v).highAddr g o = s.highAddr g o := rfl
@[simp] theorem State.put8_highAddr (a : Nat) (b : Byte) (g o : Word) : (s.put8 a b).highAddr g o = s.highAddr g o := by
  simp [State.highAddr]
@[simp] theorem State.setReg16_freeFlag (q : Reg16) (v : Word) (k : Nat) :
    (s.setReg16 q v).freeFlag k = s.freeFlag k := rfl
@[simp] theorem State.setSreg_freeFlag (q : SReg) (v : Word) (k : Nat) :
    (s.setSreg q v).freeFlag k = s.freeFlag k := rfl
@[simp] theorem State.setFlags_freeFlag (f : Flags) (k : Nat) :
    (s.setFlags f).freeFlag k = s.freeFlag k := rfl
@[simp] theorem State.transfer_freeFlag (v : Word) (k : Nat) :
    (s.transfer v).freeFlag k = s.freeFlag k := rfl
@[simp] theorem State.emit_freeFlag (e : BusEvent) (k : Nat) :
    (s.emit e).freeFlag k = s.freeFlag k := rfl
@[simp] theorem State.setReg8_freeFlag (q : Reg8) (v : Byte) (k : Nat) :
    (s.setReg8 q v).freeFlag k = s.freeFlag k := rfl
@[simp] theorem State.put8_freeFlag (a : Nat) (b : Byte) (k : Nat) : (s.put8 a b).freeFlag k = s.freeFlag k := by
  simp [State.freeFlag]
@[simp] theorem State.setReg16_freeWord (q : Reg16) (v : Word) (k : Nat) :
    (s.setReg16 q v).freeWord k = s.freeWord k := rfl
@[simp] theorem State.setSreg_freeWord (q : SReg) (v : Word) (k : Nat) :
    (s.setSreg q v).freeWord k = s.freeWord k := rfl
@[simp] theorem State.setFlags_freeWord (f : Flags) (k : Nat) :
    (s.setFlags f).freeWord k = s.freeWord k := rfl
@[simp] theorem State.transfer_freeWord (v : Word) (k : Nat) :
    (s.transfer v).freeWord k = s.freeWord k := rfl
@[simp] theorem State.emit_freeWord (e : BusEvent) (k : Nat) :
    (s.emit e).freeWord k = s.freeWord k := rfl
@[simp] theorem State.setReg8_freeWord (q : Reg8) (v : Byte) (k : Nat) :
    (s.setReg8 q v).freeWord k = s.freeWord k := rfl
@[simp] theorem State.put8_freeWord (a : Nat) (b : Byte) (k : Nat) : (s.put8 a b).freeWord k = s.freeWord k := by
  simp [State.freeWord]
@[simp] theorem State.setReg16_physRead8 (q : Reg16) (v : Word) (a : Nat) :
    (s.setReg16 q v).physRead8 a = s.physRead8 a := rfl
@[simp] theorem State.setSreg_physRead8 (q : SReg) (v : Word) (a : Nat) :
    (s.setSreg q v).physRead8 a = s.physRead8 a := rfl
@[simp] theorem State.setFlags_physRead8 (f : Flags) (a : Nat) :
    (s.setFlags f).physRead8 a = s.physRead8 a := rfl
@[simp] theorem State.transfer_physRead8 (v : Word) (a : Nat) :
    (s.transfer v).physRead8 a = s.physRead8 a := rfl
@[simp] theorem State.drew_physRead8 (m : Nat) (a : Nat) :
    (s.drew m).physRead8 a = s.physRead8 a := rfl
@[simp] theorem State.emit_physRead8 (e : BusEvent) (a : Nat) :
    (s.emit e).physRead8 a = s.physRead8 a := rfl
@[simp] theorem State.setReg8_physRead8 (q : Reg8) (v : Byte) (a : Nat) :
    (s.setReg8 q v).physRead8 a = s.physRead8 a := rfl
@[simp] theorem State.setReg16_memRead8 (q : Reg16) (v : Word) (g o : Word) :
    (s.setReg16 q v).memRead8 g o = s.memRead8 g o := rfl
@[simp] theorem State.setSreg_memRead8 (q : SReg) (v : Word) (g o : Word) :
    (s.setSreg q v).memRead8 g o = s.memRead8 g o := rfl
@[simp] theorem State.setFlags_memRead8 (f : Flags) (g o : Word) :
    (s.setFlags f).memRead8 g o = s.memRead8 g o := rfl
@[simp] theorem State.transfer_memRead8 (v : Word) (g o : Word) :
    (s.transfer v).memRead8 g o = s.memRead8 g o := rfl
@[simp] theorem State.drew_memRead8 (m : Nat) (g o : Word) :
    (s.drew m).memRead8 g o = s.memRead8 g o := rfl
@[simp] theorem State.emit_memRead8 (e : BusEvent) (g o : Word) :
    (s.emit e).memRead8 g o = s.memRead8 g o := rfl
@[simp] theorem State.setReg8_memRead8 (q : Reg8) (v : Byte) (g o : Word) :
    (s.setReg8 q v).memRead8 g o = s.memRead8 g o := rfl
@[simp] theorem State.setReg16_memRead16 (q : Reg16) (v : Word) (g o : Word) :
    (s.setReg16 q v).memRead16 g o = s.memRead16 g o := rfl
@[simp] theorem State.setSreg_memRead16 (q : SReg) (v : Word) (g o : Word) :
    (s.setSreg q v).memRead16 g o = s.memRead16 g o := rfl
@[simp] theorem State.setFlags_memRead16 (f : Flags) (g o : Word) :
    (s.setFlags f).memRead16 g o = s.memRead16 g o := rfl
@[simp] theorem State.transfer_memRead16 (v : Word) (g o : Word) :
    (s.transfer v).memRead16 g o = s.memRead16 g o := rfl
@[simp] theorem State.drew_memRead16 (m : Nat) (g o : Word) :
    (s.drew m).memRead16 g o = s.memRead16 g o := rfl
@[simp] theorem State.emit_memRead16 (e : BusEvent) (g o : Word) :
    (s.emit e).memRead16 g o = s.memRead16 g o := rfl
@[simp] theorem State.setReg8_memRead16 (q : Reg8) (v : Byte) (g o : Word) :
    (s.setReg8 q v).memRead16 g o = s.memRead16 g o := rfl

/-! ### Registers -/

@[simp] theorem Regs.get_set (g : Regs) (r q : Reg16) (v : Word) :
    (g.set r v).get q = if q = r then v else g.get q := by
  cases r <;> cases q <;> rfl

@[simp] theorem Segs.get_set (g : Segs) (r q : SReg) (v : Word) :
    (g.set r v).get q = if q = r then v else g.get q := by
  cases r <;> cases q <;> rfl

@[simp] theorem State.reg16_setReg16 (r q : Reg16) (v : Word) :
    (s.setReg16 r v).reg16 q = if q = r then v else s.reg16 q := Regs.get_set _ _ _ _

@[simp] theorem State.sreg_setSreg (r q : SReg) (v : Word) :
    (s.setSreg r v).sreg q = if q = r then v else s.sreg q := Segs.get_set _ _ _ _

theorem State.reg16_setReg8_of_ne (r : Reg8) (q : Reg16) (v : Byte) (h : q ≠ r.parent) :
    (s.setReg8 r v).reg16 q = s.reg16 q := by
  simp [State.setReg8, h]

end Sys2Proof.Machine
end

