-- ==== Sys2Proof/Laws/Ops.lean ====
section
/-! SUPPORT. What each shared operation answers, once: exactly when it answers a value or a state, and which; then the state it
answers when what it needs is declared. -/

namespace Sys2Proof.Machine

variable {s t : State}

/-! ### Outcomes -/

theorem bind_eq_ok {α β : Type} {x : Res α} {f : α → Res β} {b : β} :
    (x >>= f) = .ok b ↔ ∃ a, x = .ok a ∧ f a = .ok b := by
  cases x <;> simp [bind, Except.bind]

theorem map_eq_ok {α β : Type} {x : Res α} {f : α → β} {b : β} :
    (f <$> x) = .ok b ↔ ∃ a, x = .ok a ∧ f a = b := by
  cases x <;> simp [Functor.map, Except.map]

@[simp] theorem pure_eq_ok {α : Type} {a b : α} : (pure a : Res α) = .ok b ↔ a = b := by
  simp [pure, Except.pure]

@[simp] theorem ok_bind {α β : Type} (a : α) (f : α → Res β) : ((.ok a : Res α) >>= f) = f a := rfl

@[simp] theorem error_bind {α β : Type} (e : Fault) (f : α → Res β) : ((.error e : Res α) >>= f) = .error e := rfl

@[simp] theorem ok_map {α β : Type} (a : α) (f : α → β) : f <$> (.ok a : Res α) = .ok (f a) := rfl

@[simp] theorem pure_res {α : Type} (a : α) : (pure a : Res α) = .ok a := rfl

@[simp] theorem finish_ok (s : State) : finish (.ok s) = .next s := rfl

@[simp] theorem finish_error (f : Fault) : finish (.error f) = .fault f := rfl

theorem finish_eq_next {x : Res State} : finish x = .next t ↔ x = .ok t := by
  cases x <;> simp [finish]

theorem finish_eq_fault {x : Res State} {f : Fault} : finish x = .fault f ↔ x = .error f := by
  cases x <;> simp [finish]

@[simp] theorem finish_ne_refused {x : Res State} {r : Refusal} : finish x ≠ .refused r := by
  cases x <;> simp [finish]

/-! ### Bytes and words -/

theorem hasByte_of_fullyMapped (h : s.fullyMapped) (g o : Word) : s.hasByte g o :=
  h _ (Nat.mod_lt _ (by decide))

theorem phys_lt (g o : Word) : phys g o < 2 ^ 20 := Nat.mod_lt _ (by decide)

theorem highAddr_lt (s : State) (g o : Word) : s.highAddr g o < 2 ^ 20 := by
  unfold State.highAddr; split
  · exact phys_lt _ _
  · exact Nat.mod_lt _ (by decide)

theorem hasWord_of_fullyMapped (h : s.fullyMapped) (g o : Word) : s.hasWord g o :=
  ⟨h _ (phys_lt _ _), h _ (highAddr_lt _ _ _)⟩

theorem physRead8_eq_ok {a : Nat} {b : Byte} :
    s.physRead8 a = .ok b ↔ s.declares a = true ∧ s.mem.read a = b := by
  unfold State.physRead8; split <;> simp_all

theorem physWrite8_eq_ok {a : Nat} {b : Byte} :
    s.physWrite8 a b = .ok t ↔ s.declares a = true ∧ s.put8 a b = t := by
  unfold State.physWrite8; split <;> simp_all

theorem memRead8_eq_ok {g o : Word} {v : Byte} : s.memRead8 g o = .ok v ↔ s.hasByte g o ∧ s.byteAt g o = v :=
  physRead8_eq_ok

theorem memRead16_eq_ok {g o v : Word} : s.memRead16 g o = .ok v ↔ s.hasWord g o ∧ s.wordAt g o = v := by
  simp only [State.memRead16, bind_eq_ok, physRead8_eq_ok, pure_eq_ok, State.hasWord, State.wordAt, State.byteAt]
  constructor
  · rintro ⟨_, ⟨h1, rfl⟩, _, ⟨h2, rfl⟩, rfl⟩; exact ⟨⟨h1, h2⟩, rfl⟩
  · rintro ⟨⟨h1, h2⟩, rfl⟩; exact ⟨_, ⟨h1, rfl⟩, _, ⟨h2, rfl⟩, rfl⟩

theorem memWrite8_eq_ok {g o : Word} {v : Byte} :
    s.memWrite8 g o v = .ok t ↔ s.hasByte g o ∧ s.storeByte g o v = t := physWrite8_eq_ok

theorem memWrite16_eq_ok {g o v : Word} :
    s.memWrite16 g o v = .ok t ↔ s.hasWord g o ∧ s.storeWord g o v = t := by
  simp only [State.memWrite16, bind_eq_ok, physWrite8_eq_ok, State.hasWord, State.storeWord]
  constructor
  · rintro ⟨_, ⟨h1, rfl⟩, h2, rfl⟩; simp at h2 ⊢; exact ⟨h1, h2⟩
  · rintro ⟨⟨h1, h2⟩, rfl⟩; exact ⟨_, ⟨h1, rfl⟩, by simpa using h2, by simp⟩

theorem memRead8_ok {g o : Word} (h : s.hasByte g o) : s.memRead8 g o = .ok (s.byteAt g o) := memRead8_eq_ok.2 ⟨h, rfl⟩

theorem memRead16_ok {g o : Word} (h : s.hasWord g o) : s.memRead16 g o = .ok (s.wordAt g o) := memRead16_eq_ok.2 ⟨h, rfl⟩

theorem memWrite8_ok {g o : Word} (h : s.hasByte g o) (v : Byte) : s.memWrite8 g o v = .ok (s.storeByte g o v) :=
  memWrite8_eq_ok.2 ⟨h, rfl⟩

theorem memWrite16_ok {g o : Word} (h : s.hasWord g o) (v : Word) : s.memWrite16 g o v = .ok (s.storeWord g o v) :=
  memWrite16_eq_ok.2 ⟨h, rfl⟩

/-! ### Operands -/

theorem readRm8_eq_ok {d : Rm8} {v : Byte} : s.readRm8 d = .ok v ↔ s.hasRm8 d ∧ s.rm8 d = v := by
  cases d with
  | reg r => simp [State.readRm8, State.hasRm8, State.rm8]
  | mem m => exact memRead8_eq_ok

theorem readRm16_eq_ok {d : Rm16} {v : Word} : s.readRm16 d = .ok v ↔ s.hasRm16 d ∧ s.rm16 d = v := by
  cases d with
  | reg r => simp [State.readRm16, State.hasRm16, State.rm16]
  | mem m => exact memRead16_eq_ok

theorem writeRm8_eq_ok {d : Rm8} {v : Byte} : s.writeRm8 d v = .ok t ↔ s.hasRm8 d ∧ s.putRm8 d v = t := by
  cases d with
  | reg r => simp [State.writeRm8, State.hasRm8, State.putRm8]
  | mem m => exact memWrite8_eq_ok

theorem writeRm16_eq_ok {d : Rm16} {v : Word} : s.writeRm16 d v = .ok t ↔ s.hasRm16 d ∧ s.putRm16 d v = t := by
  cases d with
  | reg r => simp [State.writeRm16, State.hasRm16, State.putRm16]
  | mem m => exact memWrite16_eq_ok

theorem readFar_eq_ok {m : MemOp} {p : Word × Word} :
    s.readFar m = .ok p ↔ s.hasFar m ∧ (s.farOff m, s.farSel m) = p := by
  simp only [State.readFar, State.memReadFar, bind_eq_ok, memRead16_eq_ok, pure_eq_ok, State.hasFar, State.farOff, State.farSel]
  constructor
  · rintro ⟨_, ⟨h1, rfl⟩, _, ⟨h2, rfl⟩, rfl⟩; exact ⟨⟨h1, h2⟩, rfl⟩
  · rintro ⟨⟨h1, h2⟩, rfl⟩; exact ⟨_, ⟨h1, rfl⟩, _, ⟨h2, rfl⟩, rfl⟩

theorem readRm8_ok {d : Rm8} (h : s.hasRm8 d) : s.readRm8 d = .ok (s.rm8 d) := readRm8_eq_ok.2 ⟨h, rfl⟩

theorem readRm16_ok {d : Rm16} (h : s.hasRm16 d) : s.readRm16 d = .ok (s.rm16 d) := readRm16_eq_ok.2 ⟨h, rfl⟩

theorem writeRm8_ok {d : Rm8} (h : s.hasRm8 d) (v : Byte) : s.writeRm8 d v = .ok (s.putRm8 d v) :=
  writeRm8_eq_ok.2 ⟨h, rfl⟩

theorem writeRm16_ok {d : Rm16} (h : s.hasRm16 d) (v : Word) : s.writeRm16 d v = .ok (s.putRm16 d v) :=
  writeRm16_eq_ok.2 ⟨h, rfl⟩

theorem readFar_ok {m : MemOp} (h : s.hasFar m) : s.readFar m = .ok (s.farOff m, s.farSel m) := readFar_eq_ok.2 ⟨h, rfl⟩

/-- An operand can be written after an update that keeps the registers, the segment registers, the prefixes and the platform. -/
theorem hasRm8_congr {d : Rm8} (h1 : t.regs = s.regs) (h2 : t.segs = s.segs) (h3 : t.pfx = s.pfx) (h4 : t.cfg = s.cfg) :
    t.hasRm8 d ↔ s.hasRm8 d := by
  cases d with
  | reg r => exact Iff.rfl
  | mem m =>
    cases m <;> simp [State.hasRm8, State.hasByte, State.declares, State.segOf, State.sreg, State.ea, State.base, h1, h2, h3, h4]

theorem hasRm16_congr {d : Rm16} (h1 : t.regs = s.regs) (h2 : t.segs = s.segs) (h3 : t.pfx = s.pfx) (h4 : t.cfg = s.cfg) :
    t.hasRm16 d ↔ s.hasRm16 d := by
  cases d with
  | reg r => exact Iff.rfl
  | mem m =>
    cases m <;> simp [State.hasRm16, State.hasWord, State.declares, State.segOf, State.sreg, State.ea, State.base,
      State.highAddr, h1, h2, h3, h4]

/-! ### Stack -/

theorem push16_eq_ok {v : Word} :
    s.push16 v = .ok t ↔ s.hasWord s.segs.ss (s.regs.sp - 2) ∧ s.pushed [v] = t := by
  simp only [State.push16, memWrite16_eq_ok, State.pushed]
  exact Iff.rfl

theorem pop16_eq_ok {p : Word × State} :
    s.pop16 = .ok p ↔ s.hasWord s.segs.ss s.regs.sp ∧ (s.wordAt s.segs.ss s.regs.sp, s.setReg16 .sp (s.regs.sp + 2)) = p := by
  simp only [State.pop16, bind_eq_ok, memRead16_eq_ok, pure_eq_ok]
  constructor
  · rintro ⟨_, ⟨h1, rfl⟩, rfl⟩; exact ⟨h1, rfl⟩
  · rintro ⟨h1, rfl⟩; exact ⟨_, ⟨h1, rfl⟩, rfl⟩

theorem push16_ok {v : Word} (h : s.hasWord s.segs.ss (s.regs.sp - 2)) : s.push16 v = .ok (s.pushed [v]) :=
  push16_eq_ok.2 ⟨h, rfl⟩

theorem pop16_ok (h : s.hasWord s.segs.ss s.regs.sp) :
    s.pop16 = .ok (s.wordAt s.segs.ss s.regs.sp, s.setReg16 .sp (s.regs.sp + 2)) := pop16_eq_ok.2 ⟨h, rfl⟩

/-! ### Stores keep everything but memory -/

@[simp] theorem State.storeByte_regs (g o : Word) (v : Byte) : (s.storeByte g o v).regs = s.regs := by
  simp [State.storeByte]

@[simp] theorem State.storeWord_regs (g o v : Word) : (s.storeWord g o v).regs = s.regs := by
  simp [State.storeWord]

@[simp] theorem State.storeByte_segs (g o : Word) (v : Byte) : (s.storeByte g o v).segs = s.segs := by
  simp [State.storeByte]

@[simp] theorem State.storeWord_segs (g o v : Word) : (s.storeWord g o v).segs = s.segs := by
  simp [State.storeWord]

@[simp] theorem State.storeByte_ip (g o : Word) (v : Byte) : (s.storeByte g o v).ip = s.ip := by
  simp [State.storeByte]

@[simp] theorem State.storeWord_ip (g o v : Word) : (s.storeWord g o v).ip = s.ip := by
  simp [State.storeWord]

@[simp] theorem State.storeByte_flags (g o : Word) (v : Byte) : (s.storeByte g o v).flags = s.flags := by
  simp [State.storeByte]

@[simp] theorem State.storeWord_flags (g o v : Word) : (s.storeWord g o v).flags = s.flags := by
  simp [State.storeWord]

@[simp] theorem State.storeByte_nmiBlocked (g o : Word) (v : Byte) : (s.storeByte g o v).nmiBlocked = s.nmiBlocked := by
  simp [State.storeByte]

@[simp] theorem State.storeWord_nmiBlocked (g o v : Word) : (s.storeWord g o v).nmiBlocked = s.nmiBlocked := by
  simp [State.storeWord]

@[simp] theorem State.storeByte_halted (g o : Word) (v : Byte) : (s.storeByte g o v).halted = s.halted := by
  simp [State.storeByte]

@[simp] theorem State.storeWord_halted (g o v : Word) : (s.storeWord g o v).halted = s.halted := by
  simp [State.storeWord]

@[simp] theorem State.storeByte_tfAtStart (g o : Word) (v : Byte) : (s.storeByte g o v).tfAtStart = s.tfAtStart := by
  simp [State.storeByte]

@[simp] theorem State.storeWord_tfAtStart (g o v : Word) : (s.storeWord g o v).tfAtStart = s.tfAtStart := by
  simp [State.storeWord]

@[simp] theorem State.storeByte_instrStart (g o : Word) (v : Byte) : (s.storeByte g o v).instrStart = s.instrStart := by
  simp [State.storeByte]

@[simp] theorem State.storeWord_instrStart (g o v : Word) : (s.storeWord g o v).instrStart = s.instrStart := by
  simp [State.storeWord]

@[simp] theorem State.storeByte_pfx (g o : Word) (v : Byte) : (s.storeByte g o v).pfx = s.pfx := by
  simp [State.storeByte]

@[simp] theorem State.storeWord_pfx (g o v : Word) : (s.storeWord g o v).pfx = s.pfx := by
  simp [State.storeWord]

@[simp] theorem State.storeByte_pause (g o : Word) (v : Byte) : (s.storeByte g o v).pause = s.pause := by
  simp [State.storeByte]

@[simp] theorem State.storeByte_ahead (g o : Word) (v : Byte) : (s.storeByte g o v).ahead = s.ahead := by
  simp [State.storeByte]

@[simp] theorem State.storeWord_pause (g o v : Word) : (s.storeWord g o v).pause = s.pause := by
  simp [State.storeWord]

@[simp] theorem State.storeWord_ahead (g o v : Word) : (s.storeWord g o v).ahead = s.ahead := by
  simp [State.storeWord]

@[simp] theorem State.storeByte_cfg (g o : Word) (v : Byte) : (s.storeByte g o v).cfg = s.cfg := by
  simp [State.storeByte]

@[simp] theorem State.storeWord_cfg (g o v : Word) : (s.storeWord g o v).cfg = s.cfg := by
  simp [State.storeWord]

@[simp] theorem State.storeByte_inputs (g o : Word) (v : Byte) : (s.storeByte g o v).inputs = s.inputs := by
  simp [State.storeByte]

@[simp] theorem State.storeWord_inputs (g o v : Word) : (s.storeWord g o v).inputs = s.inputs := by
  simp [State.storeWord]

@[simp] theorem State.storeByte_ioReplies (g o : Word) (v : Byte) : (s.storeByte g o v).ioReplies = s.ioReplies := by
  simp [State.storeByte]

@[simp] theorem State.storeWord_ioReplies (g o v : Word) : (s.storeWord g o v).ioReplies = s.ioReplies := by
  simp [State.storeWord]

@[simp] theorem State.storeByte_outputs (g o : Word) (v : Byte) : (s.storeByte g o v).outputs = s.outputs := by
  simp [State.storeByte]

@[simp] theorem State.storeWord_outputs (g o v : Word) : (s.storeWord g o v).outputs = s.outputs := by
  simp [State.storeWord]

@[simp] theorem State.storeByte_draws (g o : Word) (v : Byte) : (s.storeByte g o v).draws = s.draws := by
  simp [State.storeByte]

@[simp] theorem State.storeWord_draws (g o v : Word) : (s.storeWord g o v).draws = s.draws := by
  simp [State.storeWord]

@[simp] theorem State.putRm8_segs (d : Rm8) (v : Byte) : (s.putRm8 d v).segs = s.segs := by
  cases d <;> simp [State.putRm8]

@[simp] theorem State.putRm16_segs (d : Rm16) (v : Word) : (s.putRm16 d v).segs = s.segs := by
  cases d <;> simp [State.putRm16]

@[simp] theorem State.putRm8_ip (d : Rm8) (v : Byte) : (s.putRm8 d v).ip = s.ip := by
  cases d <;> simp [State.putRm8]

@[simp] theorem State.putRm16_ip (d : Rm16) (v : Word) : (s.putRm16 d v).ip = s.ip := by
  cases d <;> simp [State.putRm16]

@[simp] theorem State.putRm8_flags (d : Rm8) (v : Byte) : (s.putRm8 d v).flags = s.flags := by
  cases d <;> simp [State.putRm8]

@[simp] theorem State.putRm16_flags (d : Rm16) (v : Word) : (s.putRm16 d v).flags = s.flags := by
  cases d <;> simp [State.putRm16]

@[simp] theorem State.putRm8_nmiBlocked (d : Rm8) (v : Byte) : (s.putRm8 d v).nmiBlocked = s.nmiBlocked := by
  cases d <;> simp [State.putRm8]

@[simp] theorem State.putRm16_nmiBlocked (d : Rm16) (v : Word) : (s.putRm16 d v).nmiBlocked = s.nmiBlocked := by
  cases d <;> simp [State.putRm16]

@[simp] theorem State.putRm8_halted (d : Rm8) (v : Byte) : (s.putRm8 d v).halted = s.halted := by
  cases d <;> simp [State.putRm8]

@[simp] theorem State.putRm16_halted (d : Rm16) (v : Word) : (s.putRm16 d v).halted = s.halted := by
  cases d <;> simp [State.putRm16]

@[simp] theorem State.putRm8_tfAtStart (d : Rm8) (v : Byte) : (s.putRm8 d v).tfAtStart = s.tfAtStart := by
  cases d <;> simp [State.putRm8]

@[simp] theorem State.putRm16_tfAtStart (d : Rm16) (v : Word) : (s.putRm16 d v).tfAtStart = s.tfAtStart := by
  cases d <;> simp [State.putRm16]

@[simp] theorem State.putRm8_instrStart (d : Rm8) (v : Byte) : (s.putRm8 d v).instrStart = s.instrStart := by
  cases d <;> simp [State.putRm8]

@[simp] theorem State.putRm16_instrStart (d : Rm16) (v : Word) : (s.putRm16 d v).instrStart = s.instrStart := by
  cases d <;> simp [State.putRm16]

@[simp] theorem State.putRm8_pfx (d : Rm8) (v : Byte) : (s.putRm8 d v).pfx = s.pfx := by
  cases d <;> simp [State.putRm8]

@[simp] theorem State.putRm16_pfx (d : Rm16) (v : Word) : (s.putRm16 d v).pfx = s.pfx := by
  cases d <;> simp [State.putRm16]

@[simp] theorem State.putRm8_pause (d : Rm8) (v : Byte) : (s.putRm8 d v).pause = s.pause := by
  cases d <;> simp [State.putRm8]

@[simp] theorem State.putRm8_ahead (d : Rm8) (v : Byte) : (s.putRm8 d v).ahead = s.ahead := by
  cases d <;> simp [State.putRm8]

@[simp] theorem State.putRm16_pause (d : Rm16) (v : Word) : (s.putRm16 d v).pause = s.pause := by
  cases d <;> simp [State.putRm16]

@[simp] theorem State.putRm16_ahead (d : Rm16) (v : Word) : (s.putRm16 d v).ahead = s.ahead := by
  cases d <;> simp [State.putRm16]

@[simp] theorem State.putRm8_cfg (d : Rm8) (v : Byte) : (s.putRm8 d v).cfg = s.cfg := by
  cases d <;> simp [State.putRm8]

@[simp] theorem State.putRm16_cfg (d : Rm16) (v : Word) : (s.putRm16 d v).cfg = s.cfg := by
  cases d <;> simp [State.putRm16]

@[simp] theorem State.putRm8_inputs (d : Rm8) (v : Byte) : (s.putRm8 d v).inputs = s.inputs := by
  cases d <;> simp [State.putRm8]

@[simp] theorem State.putRm16_inputs (d : Rm16) (v : Word) : (s.putRm16 d v).inputs = s.inputs := by
  cases d <;> simp [State.putRm16]

@[simp] theorem State.putRm8_ioReplies (d : Rm8) (v : Byte) : (s.putRm8 d v).ioReplies = s.ioReplies := by
  cases d <;> simp [State.putRm8]

@[simp] theorem State.putRm16_ioReplies (d : Rm16) (v : Word) : (s.putRm16 d v).ioReplies = s.ioReplies := by
  cases d <;> simp [State.putRm16]

@[simp] theorem State.putRm8_outputs (d : Rm8) (v : Byte) : (s.putRm8 d v).outputs = s.outputs := by
  cases d <;> simp [State.putRm8]

@[simp] theorem State.putRm16_outputs (d : Rm16) (v : Word) : (s.putRm16 d v).outputs = s.outputs := by
  cases d <;> simp [State.putRm16]

@[simp] theorem State.putRm8_draws (d : Rm8) (v : Byte) : (s.putRm8 d v).draws = s.draws := by
  cases d <;> simp [State.putRm8]

@[simp] theorem State.putRm16_draws (d : Rm16) (v : Word) : (s.putRm16 d v).draws = s.draws := by
  cases d <;> simp [State.putRm16]

@[simp] theorem State.pushed_segs (vs : List Word) : (s.pushed vs).segs = s.segs := by
  induction vs generalizing s with
  | nil => rfl
  | cons v vs ih => simp [State.pushed, ih]

@[simp] theorem State.pushed_ip (vs : List Word) : (s.pushed vs).ip = s.ip := by
  induction vs generalizing s with
  | nil => rfl
  | cons v vs ih => simp [State.pushed, ih]

@[simp] theorem State.pushed_flags (vs : List Word) : (s.pushed vs).flags = s.flags := by
  induction vs generalizing s with
  | nil => rfl
  | cons v vs ih => simp [State.pushed, ih]

@[simp] theorem State.pushed_nmiBlocked (vs : List Word) : (s.pushed vs).nmiBlocked = s.nmiBlocked := by
  induction vs generalizing s with
  | nil => rfl
  | cons v vs ih => simp [State.pushed, ih]

@[simp] theorem State.pushed_halted (vs : List Word) : (s.pushed vs).halted = s.halted := by
  induction vs generalizing s with
  | nil => rfl
  | cons v vs ih => simp [State.pushed, ih]

@[simp] theorem State.pushed_tfAtStart (vs : List Word) : (s.pushed vs).tfAtStart = s.tfAtStart := by
  induction vs generalizing s with
  | nil => rfl
  | cons v vs ih => simp [State.pushed, ih]

@[simp] theorem State.pushed_instrStart (vs : List Word) : (s.pushed vs).instrStart = s.instrStart := by
  induction vs generalizing s with
  | nil => rfl
  | cons v vs ih => simp [State.pushed, ih]

@[simp] theorem State.pushed_pfx (vs : List Word) : (s.pushed vs).pfx = s.pfx := by
  induction vs generalizing s with
  | nil => rfl
  | cons v vs ih => simp [State.pushed, ih]

@[simp] theorem State.pushed_pause (vs : List Word) : (s.pushed vs).pause = s.pause := by
  induction vs generalizing s with
  | nil => rfl
  | cons v vs ih => simp [State.pushed, ih]

@[simp] theorem State.pushed_ahead (vs : List Word) : (s.pushed vs).ahead = s.ahead := by
  induction vs generalizing s with
  | nil => rfl
  | cons v vs ih => simp [State.pushed, ih]

@[simp] theorem State.pushed_cfg (vs : List Word) : (s.pushed vs).cfg = s.cfg := by
  induction vs generalizing s with
  | nil => rfl
  | cons v vs ih => simp [State.pushed, ih]

@[simp] theorem State.pushed_inputs (vs : List Word) : (s.pushed vs).inputs = s.inputs := by
  induction vs generalizing s with
  | nil => rfl
  | cons v vs ih => simp [State.pushed, ih]

@[simp] theorem State.pushed_ioReplies (vs : List Word) : (s.pushed vs).ioReplies = s.ioReplies := by
  induction vs generalizing s with
  | nil => rfl
  | cons v vs ih => simp [State.pushed, ih]

@[simp] theorem State.pushed_outputs (vs : List Word) : (s.pushed vs).outputs = s.outputs := by
  induction vs generalizing s with
  | nil => rfl
  | cons v vs ih => simp [State.pushed, ih]

@[simp] theorem State.pushed_draws (vs : List Word) : (s.pushed vs).draws = s.draws := by
  induction vs generalizing s with
  | nil => rfl
  | cons v vs ih => simp [State.pushed, ih]

/-! ### Interrupts -/

theorem vector_eq_ok {n : Byte} {p : Word × Word} :
    s.vector n = .ok p ↔ s.hasVector n ∧
      (wordOf (s.mem.read (4 * n.toNat + 2)) (s.mem.read (4 * n.toNat + 3)),
        wordOf (s.mem.read (4 * n.toNat)) (s.mem.read (4 * n.toNat + 1))) = p := by
  simp only [State.vector, bind_eq_ok, physRead8_eq_ok, pure_eq_ok, vectorAddr, State.hasVector]
  constructor
  · rintro ⟨_, ⟨h0, rfl⟩, _, ⟨h1, rfl⟩, _, ⟨h2, rfl⟩, _, ⟨h3, rfl⟩, rfl⟩
    refine ⟨fun k hk => ?_, rfl⟩
    interval_cases k <;> simpa
  · rintro ⟨h, rfl⟩
    exact ⟨_, ⟨by simpa using h 0 (by omega), rfl⟩, _, ⟨h 1 (by omega), rfl⟩, _, ⟨h 2 (by omega), rfl⟩, _,
      ⟨h 3 (by omega), rfl⟩, rfl⟩

theorem hasWord_congr (h4 : t.cfg = s.cfg) (g o : Word) : t.hasWord g o ↔ s.hasWord g o := by
  simp [State.hasWord, State.declares, State.highAddr, h4]

theorem hasVector_congr (h4 : t.cfg = s.cfg) (n : Byte) : t.hasVector n ↔ s.hasVector n := by
  simp [State.hasVector, State.declares, h4]

theorem pushed_append (vs ws : List Word) : s.pushed (vs ++ ws) = (s.pushed vs).pushed ws := by
  induction vs generalizing s with
  | nil => rfl
  | cons v vs ih => exact ih

theorem pushed_sp (vs : List Word) : (s.pushed vs).regs = s.regs.set .sp (s.regs.sp - 2 * BitVec.ofNat 16 vs.length) := by
  induction vs generalizing s with
  | nil => simp [State.pushed, Regs.set]
  | cons v vs ih =>
    simp only [State.pushed, ih, State.storeWord_regs, State.setReg16_regs, Regs.set, List.length_cons, BitVec.ofNat_add]
    congr 1
    bv_omega

/-- Taking an interrupt, whole: it answers exactly when the stack and the vector are declared, and then it answers
`State.entered` (R330). -/
theorem interrupt_eq_ok {n : Byte} {c i : Word} :
    s.interrupt n c i = .ok t ↔ s.canEnter n ∧ s.entered n c i = t := by
  have e2 : s.regs.sp - 2#16 - 2#16 = s.regs.sp - 4#16 := by bv_omega
  have e3 : s.regs.sp - 4#16 - 2#16 = s.regs.sp - 6#16 := by bv_omega
  have hp : s.canPush 3 ↔ s.hasWord s.segs.ss (s.regs.sp - 2) ∧ s.hasWord s.segs.ss (s.regs.sp - 2 * 2#16) ∧
      s.hasWord s.segs.ss (s.regs.sp - 2 * 3#16) := by
    constructor
    · intro h
      exact ⟨by simpa using h 0 (by omega), by simpa using h 1 (by omega), by simpa using h 2 (by omega)⟩
    · rintro ⟨h0, h1, h2⟩ k hk
      interval_cases k <;> simpa
  simp only [State.interrupt, bind_eq_ok, push16_eq_ok, vector_eq_ok, pure_eq_ok, State.canEnter, hp]
  constructor
  · rintro ⟨_, ⟨h1, rfl⟩, _, ⟨h2, rfl⟩, _, ⟨h3, rfl⟩, _, ⟨h4, rfl⟩, rfl⟩
    rw [hasWord_congr (s := s) (by simp)] at h2 h3
    rw [hasVector_congr (s := s) (by simp)] at h4
    simp only [pushed_sp, Regs.set, State.pushed_segs] at h2 h3
    refine ⟨⟨⟨h1, by simpa [e2] using h2, by simpa [e2, e3] using h3⟩, h4⟩, ?_⟩
    simp [State.entered, State.pushed, State.setFlags, State.transfer, State.setSreg, Segs.set]
  · rintro ⟨⟨⟨h1, h2, h3⟩, h4⟩, rfl⟩
    refine ⟨_, ⟨h1, rfl⟩, _, ⟨?_, rfl⟩, _, ⟨?_, rfl⟩, _, ⟨?_, rfl⟩, ?_⟩
    · rw [hasWord_congr (s := s) (by simp)]
      simpa [pushed_sp, Regs.set, e2] using h2
    · rw [hasWord_congr (s := s) (by simp)]
      simpa [pushed_sp, Regs.set, e2, e3] using h3
    · rw [hasVector_congr (s := s) (by simp)]
      exact h4
    · simp [State.entered, State.pushed, State.setFlags, State.transfer, State.setSreg, Segs.set]

theorem interrupt_ok {n : Byte} {c i : Word} (h : s.canEnter n) : s.interrupt n c i = .ok (s.entered n c i) :=
  interrupt_eq_ok.2 ⟨h, rfl⟩

end Sys2Proof.Machine
end

