-- ==== Sys2Proof/Laws/Alu.lean ====
section
/-! SUPPORT. What the shapes of Machine/Alu.lean answer, once: the operand is there, and the operation keeps the registers, the
prefixes and the parameters that its address depends on. -/

namespace Sys2Proof.Machine

variable {s : State}

/-- The operation left alone everything that an operand's place depends on. -/
structure SamePlaces (s t : State) : Prop where
  regs : t.regs = s.regs
  segs : t.segs = s.segs
  pfx : t.pfx = s.pfx
  cfg : t.cfg = s.cfg

theorem samePlaces_flags (f : Flags) (n : Nat) : SamePlaces s { s with flags := f, draws := n } := ⟨rfl, rfl, rfl, rfl⟩

theorem SamePlaces.hasRm8 {t : State} (h : SamePlaces s t) {d : Rm8} (hd : s.hasRm8 d) : t.hasRm8 d :=
  (hasRm8_congr h.regs h.segs h.pfx h.cfg).2 hd

theorem SamePlaces.hasRm16 {t : State} (h : SamePlaces s t) {d : Rm16} (hd : s.hasRm16 d) : t.hasRm16 d :=
  (hasRm16_congr h.regs h.segs h.pfx h.cfg).2 hd

theorem updRm8_next {op : Alu 8} {d : Rm8} {b : Byte} (h : s.hasRm8 d) (k : SamePlaces s (op s (s.rm8 d) b).2) :
    updRm8 op d b s = .next ((op s (s.rm8 d) b).2.putRm8 d (op s (s.rm8 d) b).1) := by
  simp only [updRm8, readRm8_ok h, ok_bind, writeRm8_ok (k.hasRm8 h), finish_ok]

theorem updRm16_next {op : Alu 16} {d : Rm16} {b : Word} (h : s.hasRm16 d) (k : SamePlaces s (op s (s.rm16 d) b).2) :
    updRm16 op d b s = .next ((op s (s.rm16 d) b).2.putRm16 d (op s (s.rm16 d) b).1) := by
  simp only [updRm16, readRm16_ok h, ok_bind, writeRm16_ok (k.hasRm16 h), finish_ok]

theorem updR8_next {op : Alu 8} {r : Reg8} {m : Rm8} (h : s.hasRm8 m) :
    updR8 op r m s = .next ((op s (s.reg8 r) (s.rm8 m)).2.setReg8 r (op s (s.reg8 r) (s.rm8 m)).1) := by
  simp only [updR8, readRm8_ok h, ok_bind, pure_res, finish_ok]

theorem updR16_next {op : Alu 16} {r : Reg16} {m : Rm16} (h : s.hasRm16 m) :
    updR16 op r m s = .next ((op s (s.reg16 r) (s.rm16 m)).2.setReg16 r (op s (s.reg16 r) (s.rm16 m)).1) := by
  simp only [updR16, readRm16_ok h, ok_bind, pure_res, finish_ok]

theorem cmpRm8_next {op : Alu 8} {d : Rm8} {b : Byte} (h : s.hasRm8 d) :
    cmpRm8 op d b s = .next (op s (s.rm8 d) b).2 := by
  simp only [cmpRm8, readRm8_ok h, ok_bind, pure_res, finish_ok]

theorem cmpRm16_next {op : Alu 16} {d : Rm16} {b : Word} (h : s.hasRm16 d) :
    cmpRm16 op d b s = .next (op s (s.rm16 d) b).2 := by
  simp only [cmpRm16, readRm16_ok h, ok_bind, pure_res, finish_ok]

theorem cmpR8_next {op : Alu 8} {r : Reg8} {m : Rm8} (h : s.hasRm8 m) :
    cmpR8 op r m s = .next (op s (s.reg8 r) (s.rm8 m)).2 := by
  simp only [cmpR8, readRm8_ok h, ok_bind, pure_res, finish_ok]

theorem cmpR16_next {op : Alu 16} {r : Reg16} {m : Rm16} (h : s.hasRm16 m) :
    cmpR16 op r m s = .next (op s (s.reg16 r) (s.rm16 m)).2 := by
  simp only [cmpR16, readRm16_ok h, ok_bind, pure_res, finish_ok]

theorem unRm8_next {f : Una 8} {d : Rm8} (h : s.hasRm8 d) (k : SamePlaces s (f s (s.rm8 d)).2) :
    unRm8 f d s = .next ((f s (s.rm8 d)).2.putRm8 d (f s (s.rm8 d)).1) := by
  simp only [unRm8, readRm8_ok h, ok_bind, writeRm8_ok (k.hasRm8 h), finish_ok]

theorem unRm16_next {f : Una 16} {d : Rm16} (h : s.hasRm16 d) (k : SamePlaces s (f s (s.rm16 d)).2) :
    unRm16 f d s = .next ((f s (s.rm16 d)).2.putRm16 d (f s (s.rm16 d)).1) := by
  simp only [unRm16, readRm16_ok h, ok_bind, writeRm16_ok (k.hasRm16 h), finish_ok]

end Sys2Proof.Machine
end

