-- ==== Sys2Proof/Laws/Events.lean ====
section
/-! SUPPORT. What the operations of the interrupt return, the boundary, the ports and the repetition answer, once; and what a machine has
whose whole memory is declared. -/

namespace Sys2Proof.Machine

variable {s t : State}

/-! ### A machine whose whole memory is declared -/

theorem hasRm8_of_fullyMapped (h : s.fullyMapped) (d : Rm8) : s.hasRm8 d := by
  cases d with
  | reg r => exact trivial
  | mem m => exact hasByte_of_fullyMapped h _ _

theorem hasRm16_of_fullyMapped (h : s.fullyMapped) (d : Rm16) : s.hasRm16 d := by
  cases d with
  | reg r => exact trivial
  | mem m => exact hasWord_of_fullyMapped h _ _

theorem hasFar_of_fullyMapped (h : s.fullyMapped) (m : MemOp) : s.hasFar m :=
  ⟨hasWord_of_fullyMapped h _ _, hasWord_of_fullyMapped h _ _⟩

theorem canPush_of_fullyMapped (h : s.fullyMapped) (n : Nat) : s.canPush n := fun _ _ => hasWord_of_fullyMapped h _ _

theorem canPop_of_fullyMapped (h : s.fullyMapped) (n : Nat) : s.canPop n := fun _ _ => hasWord_of_fullyMapped h _ _

theorem hasVector_of_fullyMapped (h : s.fullyMapped) (n : Byte) : s.hasVector n := fun k hk => h _ (by have := n.isLt; omega)

theorem canEnter_of_fullyMapped (h : s.fullyMapped) (n : Byte) : s.canEnter n :=
  ⟨canPush_of_fullyMapped h 3, hasVector_of_fullyMapped h n⟩

theorem strHasByte_of_fullyMapped (h : s.fullyMapped) (k : StrKind) : k.hasByte s :=
  ⟨fun _ => hasByte_of_fullyMapped h _ _, fun _ => hasByte_of_fullyMapped h _ _⟩

theorem strHasWord_of_fullyMapped (h : s.fullyMapped) (k : StrKind) : k.hasWord s :=
  ⟨fun _ => hasWord_of_fullyMapped h _ _, fun _ => hasWord_of_fullyMapped h _ _⟩

/-! ### The return from an interrupt (R403) -/

theorem interruptReturn_eq_ok :
    s.interruptReturn = .ok t ↔ s.canPop 3 ∧
      { s.popped 3 with
        ip := s.stackWord 0, segs := { s.segs with cs := s.stackWord 1 }, flags := Flags.ofWord (s.stackWord 2)
        nmiBlocked := false, ahead := [] } = t := by
  have e2 : s.regs.sp + 2 + 2 = s.regs.sp + 4 := by bv_omega
  have e3 : s.regs.sp + 4 + 2 = s.regs.sp + 6 := by bv_omega
  have hp : s.canPop 3 ↔ s.hasWord s.segs.ss s.regs.sp ∧ s.hasWord s.segs.ss (s.regs.sp + 2) ∧
      s.hasWord s.segs.ss (s.regs.sp + 4) := by
    constructor
    · intro h
      exact ⟨by simpa using h 0 (by omega), by simpa using h 1 (by omega), by simpa using h 2 (by omega)⟩
    · rintro ⟨h0, h1, h2⟩ k hk
      interval_cases k <;> simpa
  have hw : ∀ (r : Regs) (g o : Word), ({ s with regs := r } : State).wordAt g o = s.wordAt g o := fun _ _ _ => rfl
  have hh : ∀ (r : Regs) (g o : Word), ({ s with regs := r } : State).hasWord g o = s.hasWord g o := fun _ _ _ => rfl
  have key : ∀ x y z : Word, s.regs.sp = x → s.regs.sp + 2 = y → s.regs.sp + 4 = z →
      { ((((s.setReg16 .sp (x + 2)).setReg16 .sp (y + 2)).setReg16 .sp (z + 2)).transfer (s.wordAt s.segs.ss x)).setSreg .cs
        (s.wordAt s.segs.ss y) with flags := Flags.ofWord (s.wordAt s.segs.ss z), nmiBlocked := false } =
      { s.popped 3 with
        ip := s.stackWord 0, segs := { s.segs with cs := s.stackWord 1 }, flags := Flags.ofWord (s.stackWord 2)
        nmiBlocked := false, ahead := [] } := by
    rintro _ _ _ rfl rfl rfl
    rw [e3]
    simp [State.popped, State.setReg16, Regs.set, State.transfer, State.setSreg, Segs.set, State.stackWord]
  have key := key _ _ _ rfl rfl rfl
  simp only [State.interruptReturn, bind_eq_ok, pop16_eq_ok, pure_eq_ok, hp]
  constructor
  · rintro ⟨_, ⟨h1, rfl⟩, _, ⟨h2, rfl⟩, _, ⟨h3, rfl⟩, rfl⟩
    simp only [State.setReg16, Regs.set, hh, e2] at h2 h3
    refine ⟨⟨h1, h2, h3⟩, key.symm.trans ?_⟩
    simp only [State.setReg16, Regs.set, hw, e2]
    rfl
  · rintro ⟨⟨h1, h2, h3⟩, rfl⟩
    refine ⟨_, ⟨h1, rfl⟩, _, ⟨?_, rfl⟩, _, ⟨?_, rfl⟩, Eq.trans ?_ key⟩
    · simpa only [State.setReg16, Regs.set, hh] using h2
    · simpa only [State.setReg16, Regs.set, hh, e2] using h3
    · simp only [State.setReg16, Regs.set, hw, e2]
      rfl

/-! ### The entries a boundary makes (R340) -/

theorem enter_eq_ok {n : Byte} :
    s.enter n = .ok t ↔ s.canEnter n ∧ { s.entered n s.segs.cs s.resumeIp with pause := .none } = t := by
  simp only [State.enter, bind_eq_ok, interrupt_eq_ok, pure_eq_ok]
  constructor
  · rintro ⟨_, ⟨h, rfl⟩, rfl⟩; exact ⟨h, rfl⟩
  · rintro ⟨h, rfl⟩; exact ⟨_, ⟨h, rfl⟩, rfl⟩

theorem enterNmi_eq_ok :
    s.enterNmi = .ok t ↔
      s.canEnter 2 ∧ { s.entered 2 s.segs.cs s.resumeIp with pause := .none, nmiBlocked := true } = t := by
  have e : s.enterNmi = (fun t : State => { t with nmiBlocked := true }) <$> s.enter 2 := rfl
  rw [e, map_eq_ok]
  simp only [enter_eq_ok]
  generalize s.entered 2 s.segs.cs s.resumeIp = u
  constructor
  · rintro ⟨_, ⟨h, rfl⟩, rfl⟩; exact ⟨h, rfl⟩
  · rintro ⟨h, rfl⟩; exact ⟨_, ⟨h, rfl⟩, rfl⟩

/-! ### Ports (R66) -/

/-- A port read takes the environment's next answer, or draws a free value when there is none. -/
theorem takeReply_cases (s : State) :
    (∃ v ws, s.ioReplies = v :: ws ∧ s.takeReply = (v, { s with ioReplies := ws })) ∨
      s.ioReplies = [] ∧ s.takeReply = (Config.freeWord s.draws, { s with draws := s.draws + 1 }) := by
  cases h : s.ioReplies with
  | nil => exact .inr ⟨rfl, by simp [State.takeReply, h, State.freeWord, State.drew]⟩
  | cons v ws => exact .inl ⟨v, ws, rfl, by simp [State.takeReply, h]⟩

/-! ### Repetition (R305) -/

/-- What every iteration keeps, the repetition keeps. -/
theorem repLoop_inv {el : State → Res State} {cond : Option RepKind} (P : State → Prop)
    (h : ∀ u v, P u → repOnce el u = .ok v → P v) {n : Nat} (hs : P s) (ht : repLoop el cond n s = .ok t) : P t := by
  induction n generalizing s with
  | zero => cases ht; exact hs
  | succ n ih =>
    obtain ⟨u, hu, ht⟩ := bind_eq_ok.1 ht
    split at ht
    · cases ht; exact h _ _ hs hu
    · exact ih (h _ _ hs hu) ht

/-- If every iteration runs, the repetition runs. -/
theorem repLoop_ok {el : State → Res State} {cond : Option RepKind} (P : State → Prop)
    (h : ∀ u, P u → ∃ v, repOnce el u = .ok v ∧ P v) {n : Nat} (hs : P s) : ∃ t, repLoop el cond n s = .ok t ∧ P t := by
  induction n generalizing s with
  | zero => exact ⟨s, rfl, hs⟩
  | succ n ih =>
    obtain ⟨u, hu, hp⟩ := h s hs
    simp only [repLoop, hu, ok_bind]
    split
    · exact ⟨u, rfl, hp⟩
    · exact ih hp

end Sys2Proof.Machine
end

