-- ==== Sys2Proof/Laws/Fetch.lean ====
section
/-! SUPPORT. What the fetch and the fetching ahead answer, once (10_state R17, 20_memory R70). -/

namespace Sys2Proof.Machine

variable {s : State}

/-! ### One lemma per field -/

@[simp] theorem State.past_regs (n : Nat) : (s.past n).regs = s.regs := rfl
@[simp] theorem State.past_segs (n : Nat) : (s.past n).segs = s.segs := rfl
@[simp] theorem State.past_ip (n : Nat) : (s.past n).ip = s.ip + BitVec.ofNat 16 n := rfl
@[simp] theorem State.past_flags (n : Nat) : (s.past n).flags = s.flags := rfl
@[simp] theorem State.past_nmiBlocked (n : Nat) : (s.past n).nmiBlocked = s.nmiBlocked := rfl
@[simp] theorem State.past_halted (n : Nat) : (s.past n).halted = s.halted := rfl
@[simp] theorem State.past_tfAtStart (n : Nat) : (s.past n).tfAtStart = s.tfAtStart := rfl
@[simp] theorem State.past_instrStart (n : Nat) : (s.past n).instrStart = s.instrStart := rfl
@[simp] theorem State.past_pfx (n : Nat) : (s.past n).pfx = s.pfx := rfl
@[simp] theorem State.past_pause (n : Nat) : (s.past n).pause = s.pause := rfl
@[simp] theorem State.past_mem (n : Nat) : (s.past n).mem = s.mem := rfl
@[simp] theorem State.past_cfg (n : Nat) : (s.past n).cfg = s.cfg := rfl
@[simp] theorem State.past_inputs (n : Nat) : (s.past n).inputs = s.inputs := rfl
@[simp] theorem State.past_ioReplies (n : Nat) : (s.past n).ioReplies = s.ioReplies := rfl
@[simp] theorem State.past_outputs (n : Nat) : (s.past n).outputs = s.outputs := rfl
@[simp] theorem State.past_ahead (n : Nat) : (s.past n).ahead = s.ahead.drop n := rfl
@[simp] theorem State.past_draws (n : Nat) : (s.past n).draws = s.draws := rfl

@[simp] theorem State.fetchAhead_regs : s.fetchAhead.regs = s.regs := by
  unfold State.fetchAhead; split <;> rfl
@[simp] theorem State.fetchAhead_segs : s.fetchAhead.segs = s.segs := by
  unfold State.fetchAhead; split <;> rfl
@[simp] theorem State.fetchAhead_ip : s.fetchAhead.ip = s.ip := by
  unfold State.fetchAhead; split <;> rfl
@[simp] theorem State.fetchAhead_flags : s.fetchAhead.flags = s.flags := by
  unfold State.fetchAhead; split <;> rfl
@[simp] theorem State.fetchAhead_nmiBlocked : s.fetchAhead.nmiBlocked = s.nmiBlocked := by
  unfold State.fetchAhead; split <;> rfl
@[simp] theorem State.fetchAhead_halted : s.fetchAhead.halted = s.halted := by
  unfold State.fetchAhead; split <;> rfl
@[simp] theorem State.fetchAhead_tfAtStart : s.fetchAhead.tfAtStart = s.tfAtStart := by
  unfold State.fetchAhead; split <;> rfl
@[simp] theorem State.fetchAhead_instrStart : s.fetchAhead.instrStart = s.instrStart := by
  unfold State.fetchAhead; split <;> rfl
@[simp] theorem State.fetchAhead_pfx : s.fetchAhead.pfx = s.pfx := by
  unfold State.fetchAhead; split <;> rfl
@[simp] theorem State.fetchAhead_pause : s.fetchAhead.pause = s.pause := by
  unfold State.fetchAhead; split <;> rfl
@[simp] theorem State.fetchAhead_mem : s.fetchAhead.mem = s.mem := by
  unfold State.fetchAhead; split <;> rfl
@[simp] theorem State.fetchAhead_cfg : s.fetchAhead.cfg = s.cfg := by
  unfold State.fetchAhead; split <;> rfl
@[simp] theorem State.fetchAhead_inputs : s.fetchAhead.inputs = s.inputs := by
  unfold State.fetchAhead; split <;> rfl
@[simp] theorem State.fetchAhead_ioReplies : s.fetchAhead.ioReplies = s.ioReplies := by
  unfold State.fetchAhead; split <;> rfl
@[simp] theorem State.fetchAhead_outputs : s.fetchAhead.outputs = s.outputs := by
  unfold State.fetchAhead; split <;> rfl

/-! ### What is met from CS:IP on -/

/-- With nothing fetched ahead, the bytes are memory's. -/
theorem bytesAt_iff_of_ahead_nil (h : s.ahead = []) (bs : List Byte) :
    s.bytesAt bs ↔ ∀ k (hk : k < bs.length), s.hasByte s.segs.cs (s.ip + BitVec.ofNat 16 k) ∧
      s.byteAt s.segs.cs (s.ip + BitVec.ofNat 16 k) = bs[k] := by
  simp [State.bytesAt, h]

/-- The bytes met from CS:IP on, and those met past the first of them. -/
theorem bytesAt_append {bs cs : List Byte} : s.bytesAt (bs ++ cs) ↔ s.bytesAt bs ∧ (s.past bs.length).bytesAt cs := by
  constructor
  · intro h
    refine ⟨fun k hk => ?_, fun k hk => ?_⟩
    · have h := h k (by simp; omega)
      rwa [List.getElem_append_left hk] at h
    · have h := h (bs.length + k) (by simp [hk])
      simpa [BitVec.ofNat_add, BitVec.add_assoc, State.hasByte, State.byteAt, State.declares] using h
  · rintro ⟨h, g⟩ k hk
    by_cases hb : k < bs.length
    · rw [List.getElem_append_left hb]
      exact h k hb
    · obtain ⟨j, rfl⟩ : ∃ j, k = bs.length + j := ⟨k - bs.length, by omega⟩
      have g := g j (by simpa using hk)
      simpa [BitVec.ofNat_add, BitVec.add_assoc, State.hasByte, State.byteAt, State.declares] using g

/-- The window holds the bytes of memory from CS:off on, as far as they are declared. -/
theorem window_bytes (n : Nat) (off : Word) : (s.window n off).length ≤ n ∧
    ∀ k (hk : k < (s.window n off).length), s.hasByte s.segs.cs (off + BitVec.ofNat 16 k) ∧
      s.byteAt s.segs.cs (off + BitVec.ofNat 16 k) = (s.window n off)[k] := by
  induction n generalizing off with
  | zero => simp [State.window]
  | succ n ih =>
    unfold State.window
    split
    next hd =>
      refine ⟨by simpa using (ih (off + 1)).1, fun k hk => ?_⟩
      cases k with
      | zero => exact ⟨by simpa [State.hasByte] using hd, by simp [State.byteAt]⟩
      | succ k =>
        have e : off + BitVec.ofNat 16 (k + 1) = off + 1 + BitVec.ofNat 16 k := by rw [BitVec.ofNat_add]; bv_omega
        rw [e]
        exact (ih (off + 1)).2 k (by simpa using hk)
    next => simp

/-- The window starts with the bytes that lie at CS:off. -/
theorem window_of_bytes (bs : List Byte) (n : Nat) (off : Word) (hn : bs.length ≤ n)
    (h : ∀ k (hk : k < bs.length), s.hasByte s.segs.cs (off + BitVec.ofNat 16 k) ∧
      s.byteAt s.segs.cs (off + BitVec.ofNat 16 k) = bs[k]) : ∃ rest, s.window n off = bs ++ rest := by
  induction bs generalizing n off with
  | nil => exact ⟨_, rfl⟩
  | cons b bs ih =>
    cases n with
    | zero => simp at hn
    | succ n =>
      obtain ⟨h0, h1⟩ := h 0 (by simp)
      simp only [BitVec.add_zero, State.hasByte, State.byteAt, List.getElem_cons_zero] at h0 h1
      obtain ⟨rest, hr⟩ := ih n (off + 1#16) (by simpa using hn) fun k hk => by
        have := h (k + 1) (by simpa using hk)
        have e : off + 1#16 + BitVec.ofNat 16 k = off + BitVec.ofNat 16 (k + 1) := by
          rw [BitVec.ofNat_add]; bv_omega
        simpa [e] using this
      exact ⟨rest, by simp [State.window, h0, h1, show s.window n (off + 1#16) = bs ++ rest from hr]⟩

/-- What has been fetched ahead, and the bytes of memory after it, are the bytes met from CS:IP on. -/
theorem bytesAt_ahead_beyond (n : Nat) : s.bytesAt (s.ahead ++ s.beyond n) := by
  intro k hk
  by_cases h : k < s.ahead.length
  · simp [List.getElem_append_left h, h]
  · obtain ⟨j, rfl⟩ : ∃ j, k = s.ahead.length + j := ⟨k - s.ahead.length, by omega⟩
    have hj : j < (s.beyond n).length := by simpa using hk
    have g := (window_bytes _ _).2 j hj
    rw [List.getElem?_eq_none (by omega), List.getElem_append_right (by omega)]
    simp only [Nat.add_sub_cancel_left, BitVec.ofNat_add, ← BitVec.add_assoc]
    exact g

/-! ### Fetching -/

/-- The bytes met from CS:IP on are the first that the decoder sees. -/
theorem ahead_beyond_of_bytesAt {bs : List Byte} (h : s.bytesAt bs) (hn : bs.length ≤ maxLength) :
    ∃ rest, s.ahead ++ s.beyond maxLength = bs ++ rest := by
  have ht : bs.take s.ahead.length <+: s.ahead := by
    rw [List.prefix_iff_getElem?]
    intro k hk
    simp only [List.length_take, lt_min_iff] at hk
    have h := h k hk.2
    rw [List.getElem?_eq_getElem hk.1] at h ⊢
    simpa using h
  by_cases hl : bs.length ≤ s.ahead.length
  · rw [List.take_of_length_le hl] at ht
    obtain ⟨r, hr⟩ := ht
    exact ⟨r ++ s.beyond maxLength, by rw [← hr]; simp⟩
  · have he := ht.eq_of_length (by simp; omega)
    obtain ⟨r, hr⟩ := window_of_bytes (s := s) (bs.drop s.ahead.length) (maxLength - s.ahead.length)
      (s.ip + BitVec.ofNat 16 s.ahead.length) (by simp; omega) fun k hk => by
        have h := h (s.ahead.length + k) (by simpa [Nat.add_comm] using Nat.add_lt_of_lt_sub (by simpa using hk))
        rw [List.getElem?_eq_none (by omega)] at h
        simpa [BitVec.ofNat_add, BitVec.add_assoc] using h
    refine ⟨r, ?_⟩
    have hb : s.beyond maxLength = bs.drop s.ahead.length ++ r := hr
    have hc := List.take_append_drop s.ahead.length bs
    rw [he] at hc
    rw [hb, ← List.append_assoc, hc]

/-- The fetch of an instruction whose bytes are met from CS:IP on. -/
theorem fetch_eq {bs : List Byte} {i : Instr} (h : s.bytesAt bs) (hn : bs.length ≤ maxLength)
    (hd : ∀ rest, decode (bs ++ rest) = .ok (i, rest)) : s.fetch = .ok (i, s.past bs.length) := by
  obtain ⟨rest, hr⟩ := ahead_beyond_of_bytesAt h hn
  simp [State.fetch, hr, hd]

/-- A fetch leaves the machine past some bytes of the instruction. -/
theorem fetch_eq_ok {i : Instr} {t : State} (h : s.fetch = .ok (i, t)) : ∃ n, t = s.past n := by
  unfold State.fetch at h
  simp only at h
  split at h
  · cases h; exact ⟨_, rfl⟩
  · cases h

/-- With depth 0 nothing is fetched ahead. -/
theorem fetchAhead_of_depth_zero (h : s.cfg.prefetchDepth = 0) : s.fetchAhead = s := by
  unfold State.fetchAhead; rw [h]

/-- Fetching ahead changes what is fetched ahead and the count of free values, nothing else. -/
theorem fetchAhead_eq (s : State) : s.fetchAhead = { s with ahead := s.fetchAhead.ahead, draws := s.fetchAhead.draws } := by
  unfold State.fetchAhead; split <;> rfl

/-- What is fetched ahead: what was, then the bytes of memory that follow, up to the depth. -/
theorem fetchAhead_ahead (s : State) : ∃ n, n ≤ s.cfg.prefetchDepth ∧ s.fetchAhead.ahead = s.ahead ++ s.beyond n := by
  unfold State.fetchAhead
  split
  next => exact ⟨0, by omega, by simp [State.beyond, State.window]⟩
  next d h => exact ⟨(s.freeWord 0).toNat % (d + 2), by have := Nat.mod_lt (s.freeWord 0).toNat (show 0 < d + 2 by omega); omega, rfl⟩

/-- Fetching ahead past an instruction, whole. -/
theorem aheadPast_fetchAhead {bs : List Byte} (h : s.bytesAt bs) : s.aheadPast bs (s.past bs.length).fetchAhead.ahead := by
  obtain ⟨n, hn, he⟩ := fetchAhead_ahead (s.past bs.length)
  rw [he]
  have hw := (window_bytes (s := s.past bs.length) (n - (s.past bs.length).ahead.length)
    ((s.past bs.length).ip + BitVec.ofNat 16 (s.past bs.length).ahead.length)).1
  refine ⟨bytesAt_append.2 ⟨h, bytesAt_ahead_beyond n⟩, by simp, ?_⟩
  rw [State.past_cfg] at hn
  rw [List.length_append, State.beyond]
  simp only [State.past_ahead, List.length_drop] at hw ⊢
  omega

end Sys2Proof.Machine
end

