-- ==== Sys2Proof/Laws/Flags.lean ====
section
/-! SUPPORT. What the flag computations do: the machine's formulas (10_state R27) are those of `Sys2Proof.Safety`, over unbounded
integers. -/

namespace Sys2Proof.Machine

theorem msb_eq_le {n : Nat} (r : BitVec n) (h : 0 < n) : r.msb = decide (2 ^ (n - 1) ≤ r.toNat) := by
  cases n with
  | zero => omega
  | succ n => simp [BitVec.msb_eq_decide]

theorem setSZP_eq {n : Nat} (h : 0 < n) (f : Flags) (r : BitVec n) : f.setSZP r = resultFlags f r := by
  have hz : decide (r = 0#n) = decide (r.toNat = 0) := by simp [BitVec.toNat_eq]
  have hp : evenParity r = decide (((List.range 8).filter fun i => r.toNat.testBit i).length % 2 = 0) := by
    rw [evenParity, ← List.countP_eq_length_filter]; rfl
  unfold Flags.setSZP resultFlags
  rw [msb_eq_le r h, hz, hp]

theorem pow_double {n : Nat} (h : 0 < n) : 2 ^ n = 2 * 2 ^ (n - 1) := by
  cases n with
  | zero => omega
  | succ n => simp [Nat.pow_succ, Nat.mul_comm]

theorem toInt_cases {n : Nat} (h : 0 < n) (a : BitVec n) :
    a.toInt = if 2 ^ (n - 1) ≤ a.toNat then (a.toNat : Int) - 2 * (2 ^ (n - 1) : Nat) else a.toNat := by
  rw [BitVec.toInt_eq_toNat_cond, pow_double h]
  split <;> split <;> omega

/-- `AddFlags` answers the sum modulo 2^N and the flags of R21 to R26. -/
theorem addFlags_eq {n : Nat} (h : 0 < n) (f : Flags) (a b : BitVec n) (c : Bool) :
    addFlags f a b c = (sumOf a b c.toNat, sumFlags f a b c.toNat) := by
  have hO : (a.msb == b.msb && (sumOf a b c.toNat).msb != a.msb) =
      decide (a.toInt + b.toInt + c.toNat < -2 ^ (n - 1) ∨ 2 ^ (n - 1) ≤ a.toInt + b.toInt + c.toNat) := by
    rw [msb_eq_le _ h, msb_eq_le _ h, msb_eq_le _ h, toInt_cases h, toInt_cases h, sumOf, BitVec.toNat_ofNat]
    have ha := a.isLt
    have hb := b.isLt
    have hP : ((2 : Int) ^ (n - 1)) = ((2 ^ (n - 1) : Nat) : Int) := by simp
    have h1 : 1 ≤ 2 ^ (n - 1) := Nat.one_le_two_pow
    rw [hP]
    rw [pow_double h] at ha hb ⊢
    generalize 2 ^ (n - 1) = P at *
    have hc : c.toNat ≤ 1 := by cases c <;> simp
    generalize c.toNat = k at *
    generalize a.toNat = x at *
    generalize b.toNat = y at *
    by_cases h2 : x + y + k < 2 * P
    · rw [Nat.mod_eq_of_lt h2]
      rw [Bool.eq_iff_iff]
      simp only [Bool.and_eq_true, beq_iff_eq, bne_iff_ne, ne_eq, decide_eq_decide, decide_eq_true_eq]
      split <;> split <;> omega
    · rw [Nat.mod_eq_sub_mod (by omega), Nat.mod_eq_of_lt (by omega)]
      rw [Bool.eq_iff_iff]
      simp only [Bool.and_eq_true, beq_iff_eq, bne_iff_ne, ne_eq, decide_eq_decide, decide_eq_true_eq]
      split <;> split <;> omega
  unfold addFlags sumFlags
  rw [← hO, ← setSZP_eq h]
  rfl

theorem ofInt_sub {n : Nat} (x y : Int) : BitVec.ofInt n (x - y) = BitVec.ofInt n x - BitVec.ofInt n y := by
  rw [eq_sub_iff_add_eq, ← BitVec.ofInt_add, Int.sub_add_cancel]

/-- `SubFlags` answers the difference modulo 2^N and the flags of R21 to R26. -/
theorem subFlags_eq {n : Nat} (h : 0 < n) (f : Flags) (a b : BitVec n) (c : Bool) :
    subFlags f a b c = (differenceOf a b c.toNat, differenceFlags f a b c.toNat) := by
  have hr : a - b - BitVec.ofNat n c.toNat = differenceOf a b c.toNat := by
    simp [differenceOf, ofInt_sub]
  have hO : (a.msb != b.msb && (differenceOf a b c.toNat).msb != a.msb) =
      decide (a.toInt - b.toInt - c.toNat < -2 ^ (n - 1) ∨ 2 ^ (n - 1) ≤ a.toInt - b.toInt - c.toNat) := by
    rw [msb_eq_le _ h, msb_eq_le _ h, msb_eq_le _ h, toInt_cases h, toInt_cases h, differenceOf, BitVec.toNat_ofInt]
    have ha := a.isLt
    have hb := b.isLt
    have hP : ((2 : Int) ^ (n - 1)) = ((2 ^ (n - 1) : Nat) : Int) := by simp
    have h1 : 1 ≤ 2 ^ (n - 1) := Nat.one_le_two_pow
    rw [hP]
    rw [pow_double h] at ha hb ⊢
    generalize 2 ^ (n - 1) = P at *
    have hc : c.toNat ≤ 1 := by cases c <;> simp
    generalize c.toNat = k at *
    generalize a.toNat = x at *
    generalize b.toNat = y at *
    by_cases h2 : y + k ≤ x
    · rw [Int.emod_eq_of_lt (by omega) (by omega)]
      rw [Bool.eq_iff_iff]
      simp only [Bool.and_eq_true, bne_iff_ne, ne_eq, decide_eq_decide, decide_eq_true_eq]
      split <;> split <;> omega
    · rw [← Int.add_emod_right, Int.emod_eq_of_lt (by omega) (by omega)]
      rw [Bool.eq_iff_iff]
      simp only [Bool.and_eq_true, bne_iff_ne, ne_eq, decide_eq_decide, decide_eq_true_eq]
      split <;> split <;> omega
  unfold subFlags differenceFlags
  rw [← hO, ← setSZP_eq h, ← hr]

/-- `LogicFlags` answers the flags of R24 to R27. -/
theorem logicFlags_eq {n : Nat} (h : 0 < n) (f : Flags) (r : BitVec n) (af : Bool) :
    logicFlags f r af = bitwiseFlags f r af := by
  unfold logicFlags bitwiseFlags
  rw [setSZP_eq h]

end Sys2Proof.Machine
end

