-- ==== Sys2Proof/Laws/PerInstr.lean ====
section
/-! SUPPORT. What holds of every instruction, one lemma per constructor: the length of its encoding without prefixes (30_encoding R80). -/

namespace Sys2Proof.Laws

theorem encMem_length (n : BitVec 3) (m : MemOp) : 1 ≤ (encMem n m).length ∧ (encMem n m).length ≤ 3 := by
  cases m <;> simp [encMem, encWord]

theorem encRm8_length (n : BitVec 3) (d : Rm8) : 1 ≤ (encRm8 n d).length ∧ (encRm8 n d).length ≤ 3 := by
  cases d with
  | reg r => simp [encRm8]
  | mem m => exact encMem_length n m

theorem encRm16_length (n : BitVec 3) (d : Rm16) : 1 ≤ (encRm16 n d).length ∧ (encRm16 n d).length ≤ 3 := by
  cases d with
  | reg r => simp [encRm16]
  | mem m => exact encMem_length n m

/-! ### The shapes of an encoding -/

theorem length_one (b : Byte) : 1 ≤ [b].length ∧ [b].length ≤ 6 := by simp

theorem length_two (b c : Byte) : 1 ≤ [b, c].length ∧ [b, c].length ≤ 6 := by simp

theorem length_word (b : Byte) (w : Word) : 1 ≤ (b :: encWord w).length ∧ (b :: encWord w).length ≤ 6 := by simp [encWord]

theorem length_far (b : Byte) (o g : Word) :
    1 ≤ (b :: encWord o ++ encWord g).length ∧ (b :: encWord o ++ encWord g).length ≤ 6 := by simp [encWord]

theorem length_operand (b : Byte) (l : List Byte) (h : 1 ≤ l.length ∧ l.length ≤ 3) :
    1 ≤ (b :: l).length ∧ (b :: l).length ≤ 6 := by simp; omega

theorem length_operand_byte (b : Byte) (l : List Byte) (i : Byte) (h : 1 ≤ l.length ∧ l.length ≤ 3) :
    1 ≤ (b :: l ++ [i]).length ∧ (b :: l ++ [i]).length ≤ 6 := by simp; omega

theorem length_operand_word (b : Byte) (l : List Byte) (i : Word) (h : 1 ≤ l.length ∧ l.length ≤ 3) :
    1 ≤ (b :: l ++ encWord i).length ∧ (b :: l ++ encWord i).length ≤ 6 := by simp [encWord]; omega

/-- One to six bytes: opcode, ModRegR/M, displacement, immediate (R80). -/
def EncodedLength.Statement (i : Instr) : Prop := 1 ≤ (encode i).length ∧ (encode i).length ≤ 6

theorem EncodedLength.addRm8R8 (d : Rm8) (r : Reg8) : EncodedLength.Statement (.addRm8R8 d r) :=
  length_operand _ _ (encRm8_length _ d)

theorem EncodedLength.addRm16R16 (d : Rm16) (r : Reg16) : EncodedLength.Statement (.addRm16R16 d r) :=
  length_operand _ _ (encRm16_length _ d)

theorem EncodedLength.addR8Rm8 (r : Reg8) (m : Rm8) : EncodedLength.Statement (.addR8Rm8 r m) :=
  length_operand _ _ (encRm8_length _ m)

theorem EncodedLength.addR16Rm16 (r : Reg16) (m : Rm16) : EncodedLength.Statement (.addR16Rm16 r m) :=
  length_operand _ _ (encRm16_length _ m)

theorem EncodedLength.addAlImm8 (i : Byte) : EncodedLength.Statement (.addAlImm8 i) := length_two _ _

theorem EncodedLength.addAxImm16 (i : Word) : EncodedLength.Statement (.addAxImm16 i) := length_word _ _

theorem EncodedLength.addRm8Imm8 (d : Rm8) (i : Byte) : EncodedLength.Statement (.addRm8Imm8 d i) :=
  length_operand_byte _ _ _ (encRm8_length _ d)

theorem EncodedLength.addRm16Imm16 (d : Rm16) (i : Word) : EncodedLength.Statement (.addRm16Imm16 d i) :=
  length_operand_word _ _ _ (encRm16_length _ d)

theorem EncodedLength.addRm16Imm8 (d : Rm16) (i : Byte) : EncodedLength.Statement (.addRm16Imm8 d i) :=
  length_operand_byte _ _ _ (encRm16_length _ d)

theorem EncodedLength.orRm8R8 (d : Rm8) (r : Reg8) : EncodedLength.Statement (.orRm8R8 d r) :=
  length_operand _ _ (encRm8_length _ d)

theorem EncodedLength.orRm16R16 (d : Rm16) (r : Reg16) : EncodedLength.Statement (.orRm16R16 d r) :=
  length_operand _ _ (encRm16_length _ d)

theorem EncodedLength.orR8Rm8 (r : Reg8) (m : Rm8) : EncodedLength.Statement (.orR8Rm8 r m) :=
  length_operand _ _ (encRm8_length _ m)

theorem EncodedLength.orR16Rm16 (r : Reg16) (m : Rm16) : EncodedLength.Statement (.orR16Rm16 r m) :=
  length_operand _ _ (encRm16_length _ m)

theorem EncodedLength.orAlImm8 (i : Byte) : EncodedLength.Statement (.orAlImm8 i) := length_two _ _

theorem EncodedLength.orAxImm16 (i : Word) : EncodedLength.Statement (.orAxImm16 i) := length_word _ _

theorem EncodedLength.orRm8Imm8 (d : Rm8) (i : Byte) : EncodedLength.Statement (.orRm8Imm8 d i) :=
  length_operand_byte _ _ _ (encRm8_length _ d)

theorem EncodedLength.orRm16Imm16 (d : Rm16) (i : Word) : EncodedLength.Statement (.orRm16Imm16 d i) :=
  length_operand_word _ _ _ (encRm16_length _ d)

theorem EncodedLength.adcRm8R8 (d : Rm8) (r : Reg8) : EncodedLength.Statement (.adcRm8R8 d r) :=
  length_operand _ _ (encRm8_length _ d)

theorem EncodedLength.adcRm16R16 (d : Rm16) (r : Reg16) : EncodedLength.Statement (.adcRm16R16 d r) :=
  length_operand _ _ (encRm16_length _ d)

theorem EncodedLength.adcR8Rm8 (r : Reg8) (m : Rm8) : EncodedLength.Statement (.adcR8Rm8 r m) :=
  length_operand _ _ (encRm8_length _ m)

theorem EncodedLength.adcR16Rm16 (r : Reg16) (m : Rm16) : EncodedLength.Statement (.adcR16Rm16 r m) :=
  length_operand _ _ (encRm16_length _ m)

theorem EncodedLength.adcAlImm8 (i : Byte) : EncodedLength.Statement (.adcAlImm8 i) := length_two _ _

theorem EncodedLength.adcAxImm16 (i : Word) : EncodedLength.Statement (.adcAxImm16 i) := length_word _ _

theorem EncodedLength.adcRm8Imm8 (d : Rm8) (i : Byte) : EncodedLength.Statement (.adcRm8Imm8 d i) :=
  length_operand_byte _ _ _ (encRm8_length _ d)

theorem EncodedLength.adcRm16Imm16 (d : Rm16) (i : Word) : EncodedLength.Statement (.adcRm16Imm16 d i) :=
  length_operand_word _ _ _ (encRm16_length _ d)

theorem EncodedLength.adcRm16Imm8 (d : Rm16) (i : Byte) : EncodedLength.Statement (.adcRm16Imm8 d i) :=
  length_operand_byte _ _ _ (encRm16_length _ d)

theorem EncodedLength.sbbRm8R8 (d : Rm8) (r : Reg8) : EncodedLength.Statement (.sbbRm8R8 d r) :=
  length_operand _ _ (encRm8_length _ d)

theorem EncodedLength.sbbRm16R16 (d : Rm16) (r : Reg16) : EncodedLength.Statement (.sbbRm16R16 d r) :=
  length_operand _ _ (encRm16_length _ d)

theorem EncodedLength.sbbR8Rm8 (r : Reg8) (m : Rm8) : EncodedLength.Statement (.sbbR8Rm8 r m) :=
  length_operand _ _ (encRm8_length _ m)

theorem EncodedLength.sbbR16Rm16 (r : Reg16) (m : Rm16) : EncodedLength.Statement (.sbbR16Rm16 r m) :=
  length_operand _ _ (encRm16_length _ m)

theorem EncodedLength.sbbAlImm8 (i : Byte) : EncodedLength.Statement (.sbbAlImm8 i) := length_two _ _

theorem EncodedLength.sbbAxImm16 (i : Word) : EncodedLength.Statement (.sbbAxImm16 i) := length_word _ _

theorem EncodedLength.sbbRm8Imm8 (d : Rm8) (i : Byte) : EncodedLength.Statement (.sbbRm8Imm8 d i) :=
  length_operand_byte _ _ _ (encRm8_length _ d)

theorem EncodedLength.sbbRm16Imm16 (d : Rm16) (i : Word) : EncodedLength.Statement (.sbbRm16Imm16 d i) :=
  length_operand_word _ _ _ (encRm16_length _ d)

theorem EncodedLength.sbbRm16Imm8 (d : Rm16) (i : Byte) : EncodedLength.Statement (.sbbRm16Imm8 d i) :=
  length_operand_byte _ _ _ (encRm16_length _ d)

theorem EncodedLength.andRm8R8 (d : Rm8) (r : Reg8) : EncodedLength.Statement (.andRm8R8 d r) :=
  length_operand _ _ (encRm8_length _ d)

theorem EncodedLength.andRm16R16 (d : Rm16) (r : Reg16) : EncodedLength.Statement (.andRm16R16 d r) :=
  length_operand _ _ (encRm16_length _ d)

theorem EncodedLength.andR8Rm8 (r : Reg8) (m : Rm8) : EncodedLength.Statement (.andR8Rm8 r m) :=
  length_operand _ _ (encRm8_length _ m)

theorem EncodedLength.andR16Rm16 (r : Reg16) (m : Rm16) : EncodedLength.Statement (.andR16Rm16 r m) :=
  length_operand _ _ (encRm16_length _ m)

theorem EncodedLength.andAlImm8 (i : Byte) : EncodedLength.Statement (.andAlImm8 i) := length_two _ _

theorem EncodedLength.andAxImm16 (i : Word) : EncodedLength.Statement (.andAxImm16 i) := length_word _ _

theorem EncodedLength.andRm8Imm8 (d : Rm8) (i : Byte) : EncodedLength.Statement (.andRm8Imm8 d i) :=
  length_operand_byte _ _ _ (encRm8_length _ d)

theorem EncodedLength.andRm16Imm16 (d : Rm16) (i : Word) : EncodedLength.Statement (.andRm16Imm16 d i) :=
  length_operand_word _ _ _ (encRm16_length _ d)

theorem EncodedLength.subRm8R8 (d : Rm8) (r : Reg8) : EncodedLength.Statement (.subRm8R8 d r) :=
  length_operand _ _ (encRm8_length _ d)

theorem EncodedLength.subRm16R16 (d : Rm16) (r : Reg16) : EncodedLength.Statement (.subRm16R16 d r) :=
  length_operand _ _ (encRm16_length _ d)

theorem EncodedLength.subR8Rm8 (r : Reg8) (m : Rm8) : EncodedLength.Statement (.subR8Rm8 r m) :=
  length_operand _ _ (encRm8_length _ m)

theorem EncodedLength.subR16Rm16 (r : Reg16) (m : Rm16) : EncodedLength.Statement (.subR16Rm16 r m) :=
  length_operand _ _ (encRm16_length _ m)

theorem EncodedLength.subAlImm8 (i : Byte) : EncodedLength.Statement (.subAlImm8 i) := length_two _ _

theorem EncodedLength.subAxImm16 (i : Word) : EncodedLength.Statement (.subAxImm16 i) := length_word _ _

theorem EncodedLength.subRm8Imm8 (d : Rm8) (i : Byte) : EncodedLength.Statement (.subRm8Imm8 d i) :=
  length_operand_byte _ _ _ (encRm8_length _ d)

theorem EncodedLength.subRm16Imm16 (d : Rm16) (i : Word) : EncodedLength.Statement (.subRm16Imm16 d i) :=
  length_operand_word _ _ _ (encRm16_length _ d)

theorem EncodedLength.subRm16Imm8 (d : Rm16) (i : Byte) : EncodedLength.Statement (.subRm16Imm8 d i) :=
  length_operand_byte _ _ _ (encRm16_length _ d)

theorem EncodedLength.xorRm8R8 (d : Rm8) (r : Reg8) : EncodedLength.Statement (.xorRm8R8 d r) :=
  length_operand _ _ (encRm8_length _ d)

theorem EncodedLength.xorRm16R16 (d : Rm16) (r : Reg16) : EncodedLength.Statement (.xorRm16R16 d r) :=
  length_operand _ _ (encRm16_length _ d)

theorem EncodedLength.xorR8Rm8 (r : Reg8) (m : Rm8) : EncodedLength.Statement (.xorR8Rm8 r m) :=
  length_operand _ _ (encRm8_length _ m)

theorem EncodedLength.xorR16Rm16 (r : Reg16) (m : Rm16) : EncodedLength.Statement (.xorR16Rm16 r m) :=
  length_operand _ _ (encRm16_length _ m)

theorem EncodedLength.xorAlImm8 (i : Byte) : EncodedLength.Statement (.xorAlImm8 i) := length_two _ _

theorem EncodedLength.xorAxImm16 (i : Word) : EncodedLength.Statement (.xorAxImm16 i) := length_word _ _

theorem EncodedLength.xorRm8Imm8 (d : Rm8) (i : Byte) : EncodedLength.Statement (.xorRm8Imm8 d i) :=
  length_operand_byte _ _ _ (encRm8_length _ d)

theorem EncodedLength.xorRm16Imm16 (d : Rm16) (i : Word) : EncodedLength.Statement (.xorRm16Imm16 d i) :=
  length_operand_word _ _ _ (encRm16_length _ d)

theorem EncodedLength.cmpRm8R8 (d : Rm8) (r : Reg8) : EncodedLength.Statement (.cmpRm8R8 d r) :=
  length_operand _ _ (encRm8_length _ d)

theorem EncodedLength.cmpRm16R16 (d : Rm16) (r : Reg16) : EncodedLength.Statement (.cmpRm16R16 d r) :=
  length_operand _ _ (encRm16_length _ d)

theorem EncodedLength.cmpR8Rm8 (r : Reg8) (m : Rm8) : EncodedLength.Statement (.cmpR8Rm8 r m) :=
  length_operand _ _ (encRm8_length _ m)

theorem EncodedLength.cmpR16Rm16 (r : Reg16) (m : Rm16) : EncodedLength.Statement (.cmpR16Rm16 r m) :=
  length_operand _ _ (encRm16_length _ m)

theorem EncodedLength.cmpAlImm8 (i : Byte) : EncodedLength.Statement (.cmpAlImm8 i) := length_two _ _

theorem EncodedLength.cmpAxImm16 (i : Word) : EncodedLength.Statement (.cmpAxImm16 i) := length_word _ _

theorem EncodedLength.cmpRm8Imm8 (d : Rm8) (i : Byte) : EncodedLength.Statement (.cmpRm8Imm8 d i) :=
  length_operand_byte _ _ _ (encRm8_length _ d)

theorem EncodedLength.cmpRm16Imm16 (d : Rm16) (i : Word) : EncodedLength.Statement (.cmpRm16Imm16 d i) :=
  length_operand_word _ _ _ (encRm16_length _ d)

theorem EncodedLength.cmpRm16Imm8 (d : Rm16) (i : Byte) : EncodedLength.Statement (.cmpRm16Imm8 d i) :=
  length_operand_byte _ _ _ (encRm16_length _ d)

theorem EncodedLength.pushEs : EncodedLength.Statement (.pushEs) := length_one _

theorem EncodedLength.pushCs : EncodedLength.Statement (.pushCs) := length_one _

theorem EncodedLength.pushSs : EncodedLength.Statement (.pushSs) := length_one _

theorem EncodedLength.pushDs : EncodedLength.Statement (.pushDs) := length_one _

theorem EncodedLength.pushR16 (r : Reg16) : EncodedLength.Statement (.pushR16 r) := length_one _

theorem EncodedLength.pushRm16 (m : Rm16) : EncodedLength.Statement (.pushRm16 m) :=
  length_operand _ _ (encRm16_length _ m)

theorem EncodedLength.popEs : EncodedLength.Statement (.popEs) := length_one _

theorem EncodedLength.popSs : EncodedLength.Statement (.popSs) := length_one _

theorem EncodedLength.popDs : EncodedLength.Statement (.popDs) := length_one _

theorem EncodedLength.popR16 (r : Reg16) : EncodedLength.Statement (.popR16 r) := length_one _

theorem EncodedLength.popRm16 (d : Rm16) : EncodedLength.Statement (.popRm16 d) :=
  length_operand _ _ (encRm16_length _ d)

theorem EncodedLength.segEs : EncodedLength.Statement (.segEs) := length_one _

theorem EncodedLength.segCs : EncodedLength.Statement (.segCs) := length_one _

theorem EncodedLength.segSs : EncodedLength.Statement (.segSs) := length_one _

theorem EncodedLength.segDs : EncodedLength.Statement (.segDs) := length_one _

theorem EncodedLength.lock : EncodedLength.Statement (.lock) := length_one _

theorem EncodedLength.repne : EncodedLength.Statement (.repne) := length_one _

theorem EncodedLength.rep : EncodedLength.Statement (.rep) := length_one _

theorem EncodedLength.daa : EncodedLength.Statement (.daa) := length_one _

theorem EncodedLength.das : EncodedLength.Statement (.das) := length_one _

theorem EncodedLength.aaa : EncodedLength.Statement (.aaa) := length_one _

theorem EncodedLength.aas : EncodedLength.Statement (.aas) := length_one _

theorem EncodedLength.aam : EncodedLength.Statement (.aam) := length_two _ _

theorem EncodedLength.aad : EncodedLength.Statement (.aad) := length_two _ _

theorem EncodedLength.incR16 (r : Reg16) : EncodedLength.Statement (.incR16 r) := length_one _

theorem EncodedLength.incRm8 (d : Rm8) : EncodedLength.Statement (.incRm8 d) := length_operand _ _ (encRm8_length _ d)

theorem EncodedLength.incRm16 (d : Rm16) : EncodedLength.Statement (.incRm16 d) :=
  length_operand _ _ (encRm16_length _ d)

theorem EncodedLength.decR16 (r : Reg16) : EncodedLength.Statement (.decR16 r) := length_one _

theorem EncodedLength.decRm8 (d : Rm8) : EncodedLength.Statement (.decRm8 d) := length_operand _ _ (encRm8_length _ d)

theorem EncodedLength.decRm16 (d : Rm16) : EncodedLength.Statement (.decRm16 d) :=
  length_operand _ _ (encRm16_length _ d)

theorem EncodedLength.jo (d : Byte) : EncodedLength.Statement (.jo d) := length_two _ _

theorem EncodedLength.jno (d : Byte) : EncodedLength.Statement (.jno d) := length_two _ _

theorem EncodedLength.jb (d : Byte) : EncodedLength.Statement (.jb d) := length_two _ _

theorem EncodedLength.jnb (d : Byte) : EncodedLength.Statement (.jnb d) := length_two _ _

theorem EncodedLength.je (d : Byte) : EncodedLength.Statement (.je d) := length_two _ _

theorem EncodedLength.jne (d : Byte) : EncodedLength.Statement (.jne d) := length_two _ _

theorem EncodedLength.jbe (d : Byte) : EncodedLength.Statement (.jbe d) := length_two _ _

theorem EncodedLength.jnbe (d : Byte) : EncodedLength.Statement (.jnbe d) := length_two _ _

theorem EncodedLength.js (d : Byte) : EncodedLength.Statement (.js d) := length_two _ _

theorem EncodedLength.jns (d : Byte) : EncodedLength.Statement (.jns d) := length_two _ _

theorem EncodedLength.jp (d : Byte) : EncodedLength.Statement (.jp d) := length_two _ _

theorem EncodedLength.jnp (d : Byte) : EncodedLength.Statement (.jnp d) := length_two _ _

theorem EncodedLength.jl (d : Byte) : EncodedLength.Statement (.jl d) := length_two _ _

theorem EncodedLength.jnl (d : Byte) : EncodedLength.Statement (.jnl d) := length_two _ _

theorem EncodedLength.jle (d : Byte) : EncodedLength.Statement (.jle d) := length_two _ _

theorem EncodedLength.jnle (d : Byte) : EncodedLength.Statement (.jnle d) := length_two _ _

theorem EncodedLength.testRm8R8 (a : Rm8) (r : Reg8) : EncodedLength.Statement (.testRm8R8 a r) :=
  length_operand _ _ (encRm8_length _ a)

theorem EncodedLength.testRm16R16 (a : Rm16) (r : Reg16) : EncodedLength.Statement (.testRm16R16 a r) :=
  length_operand _ _ (encRm16_length _ a)

theorem EncodedLength.testAlImm8 (i : Byte) : EncodedLength.Statement (.testAlImm8 i) := length_two _ _

theorem EncodedLength.testAxImm16 (i : Word) : EncodedLength.Statement (.testAxImm16 i) := length_word _ _

theorem EncodedLength.testRm8Imm8 (a : Rm8) (i : Byte) : EncodedLength.Statement (.testRm8Imm8 a i) :=
  length_operand_byte _ _ _ (encRm8_length _ a)

theorem EncodedLength.testRm16Imm16 (a : Rm16) (i : Word) : EncodedLength.Statement (.testRm16Imm16 a i) :=
  length_operand_word _ _ _ (encRm16_length _ a)

theorem EncodedLength.xchgRm8R8 (m : Rm8) (r : Reg8) : EncodedLength.Statement (.xchgRm8R8 m r) :=
  length_operand _ _ (encRm8_length _ m)

theorem EncodedLength.xchgRm16R16 (m : Rm16) (r : Reg16) : EncodedLength.Statement (.xchgRm16R16 m r) :=
  length_operand _ _ (encRm16_length _ m)

theorem EncodedLength.xchgAxCx : EncodedLength.Statement (.xchgAxCx) := length_one _

theorem EncodedLength.xchgAxDx : EncodedLength.Statement (.xchgAxDx) := length_one _

theorem EncodedLength.xchgAxBx : EncodedLength.Statement (.xchgAxBx) := length_one _

theorem EncodedLength.xchgAxSp : EncodedLength.Statement (.xchgAxSp) := length_one _

theorem EncodedLength.xchgAxBp : EncodedLength.Statement (.xchgAxBp) := length_one _

theorem EncodedLength.xchgAxSi : EncodedLength.Statement (.xchgAxSi) := length_one _

theorem EncodedLength.xchgAxDi : EncodedLength.Statement (.xchgAxDi) := length_one _

theorem EncodedLength.movRm8R8 (d : Rm8) (r : Reg8) : EncodedLength.Statement (.movRm8R8 d r) :=
  length_operand _ _ (encRm8_length _ d)

theorem EncodedLength.movRm16R16 (d : Rm16) (r : Reg16) : EncodedLength.Statement (.movRm16R16 d r) :=
  length_operand _ _ (encRm16_length _ d)

theorem EncodedLength.movR8Rm8 (r : Reg8) (m : Rm8) : EncodedLength.Statement (.movR8Rm8 r m) :=
  length_operand _ _ (encRm8_length _ m)

theorem EncodedLength.movR16Rm16 (r : Reg16) (m : Rm16) : EncodedLength.Statement (.movR16Rm16 r m) :=
  length_operand _ _ (encRm16_length _ m)

theorem EncodedLength.movRm16Sreg (d : Rm16) (r : SReg) : EncodedLength.Statement (.movRm16Sreg d r) :=
  length_operand _ _ (encRm16_length _ d)

theorem EncodedLength.movEsRm16 (m : Rm16) : EncodedLength.Statement (.movEsRm16 m) :=
  length_operand _ _ (encRm16_length _ m)

theorem EncodedLength.movSsRm16 (m : Rm16) : EncodedLength.Statement (.movSsRm16 m) :=
  length_operand _ _ (encRm16_length _ m)

theorem EncodedLength.movDsRm16 (m : Rm16) : EncodedLength.Statement (.movDsRm16 m) :=
  length_operand _ _ (encRm16_length _ m)

theorem EncodedLength.movAlM8 (o : Word) : EncodedLength.Statement (.movAlM8 o) := length_word _ _

theorem EncodedLength.movAxM16 (o : Word) : EncodedLength.Statement (.movAxM16 o) := length_word _ _

theorem EncodedLength.movM8Al (o : Word) : EncodedLength.Statement (.movM8Al o) := length_word _ _

theorem EncodedLength.movM16Ax (o : Word) : EncodedLength.Statement (.movM16Ax o) := length_word _ _

theorem EncodedLength.movR8Imm8 (r : Reg8) (i : Byte) : EncodedLength.Statement (.movR8Imm8 r i) := length_two _ _

theorem EncodedLength.movR16Imm16 (r : Reg16) (i : Word) : EncodedLength.Statement (.movR16Imm16 r i) := length_word _ _

theorem EncodedLength.movRm8Imm8 (d : Rm8) (i : Byte) : EncodedLength.Statement (.movRm8Imm8 d i) :=
  length_operand_byte _ _ _ (encRm8_length _ d)

theorem EncodedLength.movRm16Imm16 (d : Rm16) (i : Word) : EncodedLength.Statement (.movRm16Imm16 d i) :=
  length_operand_word _ _ _ (encRm16_length _ d)

theorem EncodedLength.lea (r : Reg16) (m : MemOp) : EncodedLength.Statement (.lea r m) :=
  length_operand _ _ (encMem_length _ m)

theorem EncodedLength.les (r : Reg16) (m : MemOp) : EncodedLength.Statement (.les r m) :=
  length_operand _ _ (encMem_length _ m)

theorem EncodedLength.lds (r : Reg16) (m : MemOp) : EncodedLength.Statement (.lds r m) :=
  length_operand _ _ (encMem_length _ m)

theorem EncodedLength.nop : EncodedLength.Statement (.nop) := length_one _

theorem EncodedLength.cbw : EncodedLength.Statement (.cbw) := length_one _

theorem EncodedLength.cwd : EncodedLength.Statement (.cwd) := length_one _

theorem EncodedLength.wait : EncodedLength.Statement (.wait) := length_one _

theorem EncodedLength.pushf : EncodedLength.Statement (.pushf) := length_one _

theorem EncodedLength.popf : EncodedLength.Statement (.popf) := length_one _

theorem EncodedLength.sahf : EncodedLength.Statement (.sahf) := length_one _

theorem EncodedLength.lahf : EncodedLength.Statement (.lahf) := length_one _

theorem EncodedLength.movsb : EncodedLength.Statement (.movsb) := length_one _

theorem EncodedLength.movsw : EncodedLength.Statement (.movsw) := length_one _

theorem EncodedLength.cmpsb : EncodedLength.Statement (.cmpsb) := length_one _

theorem EncodedLength.cmpsw : EncodedLength.Statement (.cmpsw) := length_one _

theorem EncodedLength.stosb : EncodedLength.Statement (.stosb) := length_one _

theorem EncodedLength.stosw : EncodedLength.Statement (.stosw) := length_one _

theorem EncodedLength.lodsb : EncodedLength.Statement (.lodsb) := length_one _

theorem EncodedLength.lodsw : EncodedLength.Statement (.lodsw) := length_one _

theorem EncodedLength.scasb : EncodedLength.Statement (.scasb) := length_one _

theorem EncodedLength.scasw : EncodedLength.Statement (.scasw) := length_one _

theorem EncodedLength.retNearImm16 (i : Word) : EncodedLength.Statement (.retNearImm16 i) := length_word _ _

theorem EncodedLength.retNear : EncodedLength.Statement (.retNear) := length_one _

theorem EncodedLength.retFarImm16 (i : Word) : EncodedLength.Statement (.retFarImm16 i) := length_word _ _

theorem EncodedLength.retFar : EncodedLength.Statement (.retFar) := length_one _

theorem EncodedLength.int3 : EncodedLength.Statement (.int3) := length_one _

theorem EncodedLength.int (n : Byte) : EncodedLength.Statement (.int n) := length_two _ _

theorem EncodedLength.into : EncodedLength.Statement (.into) := length_one _

theorem EncodedLength.iret : EncodedLength.Statement (.iret) := length_one _

theorem EncodedLength.rolRm8One (d : Rm8) : EncodedLength.Statement (.rolRm8One d) :=
  length_operand _ _ (encRm8_length _ d)

theorem EncodedLength.rolRm16One (d : Rm16) : EncodedLength.Statement (.rolRm16One d) :=
  length_operand _ _ (encRm16_length _ d)

theorem EncodedLength.rolRm8Cl (d : Rm8) : EncodedLength.Statement (.rolRm8Cl d) :=
  length_operand _ _ (encRm8_length _ d)

theorem EncodedLength.rolRm16Cl (d : Rm16) : EncodedLength.Statement (.rolRm16Cl d) :=
  length_operand _ _ (encRm16_length _ d)

theorem EncodedLength.rorRm8One (d : Rm8) : EncodedLength.Statement (.rorRm8One d) :=
  length_operand _ _ (encRm8_length _ d)

theorem EncodedLength.rorRm16One (d : Rm16) : EncodedLength.Statement (.rorRm16One d) :=
  length_operand _ _ (encRm16_length _ d)

theorem EncodedLength.rorRm8Cl (d : Rm8) : EncodedLength.Statement (.rorRm8Cl d) :=
  length_operand _ _ (encRm8_length _ d)

theorem EncodedLength.rorRm16Cl (d : Rm16) : EncodedLength.Statement (.rorRm16Cl d) :=
  length_operand _ _ (encRm16_length _ d)

theorem EncodedLength.rclRm8One (d : Rm8) : EncodedLength.Statement (.rclRm8One d) :=
  length_operand _ _ (encRm8_length _ d)

theorem EncodedLength.rclRm16One (d : Rm16) : EncodedLength.Statement (.rclRm16One d) :=
  length_operand _ _ (encRm16_length _ d)

theorem EncodedLength.rclRm8Cl (d : Rm8) : EncodedLength.Statement (.rclRm8Cl d) :=
  length_operand _ _ (encRm8_length _ d)

theorem EncodedLength.rclRm16Cl (d : Rm16) : EncodedLength.Statement (.rclRm16Cl d) :=
  length_operand _ _ (encRm16_length _ d)

theorem EncodedLength.rcrRm8One (d : Rm8) : EncodedLength.Statement (.rcrRm8One d) :=
  length_operand _ _ (encRm8_length _ d)

theorem EncodedLength.rcrRm16One (d : Rm16) : EncodedLength.Statement (.rcrRm16One d) :=
  length_operand _ _ (encRm16_length _ d)

theorem EncodedLength.rcrRm8Cl (d : Rm8) : EncodedLength.Statement (.rcrRm8Cl d) :=
  length_operand _ _ (encRm8_length _ d)

theorem EncodedLength.rcrRm16Cl (d : Rm16) : EncodedLength.Statement (.rcrRm16Cl d) :=
  length_operand _ _ (encRm16_length _ d)

theorem EncodedLength.salRm8One (d : Rm8) : EncodedLength.Statement (.salRm8One d) :=
  length_operand _ _ (encRm8_length _ d)

theorem EncodedLength.salRm16One (d : Rm16) : EncodedLength.Statement (.salRm16One d) :=
  length_operand _ _ (encRm16_length _ d)

theorem EncodedLength.salRm8Cl (d : Rm8) : EncodedLength.Statement (.salRm8Cl d) :=
  length_operand _ _ (encRm8_length _ d)

theorem EncodedLength.salRm16Cl (d : Rm16) : EncodedLength.Statement (.salRm16Cl d) :=
  length_operand _ _ (encRm16_length _ d)

theorem EncodedLength.shrRm8One (d : Rm8) : EncodedLength.Statement (.shrRm8One d) :=
  length_operand _ _ (encRm8_length _ d)

theorem EncodedLength.shrRm16One (d : Rm16) : EncodedLength.Statement (.shrRm16One d) :=
  length_operand _ _ (encRm16_length _ d)

theorem EncodedLength.shrRm8Cl (d : Rm8) : EncodedLength.Statement (.shrRm8Cl d) :=
  length_operand _ _ (encRm8_length _ d)

theorem EncodedLength.shrRm16Cl (d : Rm16) : EncodedLength.Statement (.shrRm16Cl d) :=
  length_operand _ _ (encRm16_length _ d)

theorem EncodedLength.sarRm8One (d : Rm8) : EncodedLength.Statement (.sarRm8One d) :=
  length_operand _ _ (encRm8_length _ d)

theorem EncodedLength.sarRm16One (d : Rm16) : EncodedLength.Statement (.sarRm16One d) :=
  length_operand _ _ (encRm16_length _ d)

theorem EncodedLength.sarRm8Cl (d : Rm8) : EncodedLength.Statement (.sarRm8Cl d) :=
  length_operand _ _ (encRm8_length _ d)

theorem EncodedLength.sarRm16Cl (d : Rm16) : EncodedLength.Statement (.sarRm16Cl d) :=
  length_operand _ _ (encRm16_length _ d)

theorem EncodedLength.xlatb : EncodedLength.Statement (.xlatb) := length_one _

theorem EncodedLength.esc (op6 : BitVec 6) (m : Rm16) : EncodedLength.Statement (.esc op6 m) :=
  length_operand _ _ (encRm16_length _ m)

theorem EncodedLength.loopne (d : Byte) : EncodedLength.Statement (.loopne d) := length_two _ _

theorem EncodedLength.loope (d : Byte) : EncodedLength.Statement (.loope d) := length_two _ _

theorem EncodedLength.loop (d : Byte) : EncodedLength.Statement (.loop d) := length_two _ _

theorem EncodedLength.jcxz (d : Byte) : EncodedLength.Statement (.jcxz d) := length_two _ _

theorem EncodedLength.inAlImm8 (p : Byte) : EncodedLength.Statement (.inAlImm8 p) := length_two _ _

theorem EncodedLength.inAxImm8 (p : Byte) : EncodedLength.Statement (.inAxImm8 p) := length_two _ _

theorem EncodedLength.outImm8Al (p : Byte) : EncodedLength.Statement (.outImm8Al p) := length_two _ _

theorem EncodedLength.outImm8Ax (p : Byte) : EncodedLength.Statement (.outImm8Ax p) := length_two _ _

theorem EncodedLength.inAlDx : EncodedLength.Statement (.inAlDx) := length_one _

theorem EncodedLength.inAxDx : EncodedLength.Statement (.inAxDx) := length_one _

theorem EncodedLength.outDxAl : EncodedLength.Statement (.outDxAl) := length_one _

theorem EncodedLength.outDxAx : EncodedLength.Statement (.outDxAx) := length_one _

theorem EncodedLength.callRel16 (d : Word) : EncodedLength.Statement (.callRel16 d) := length_word _ _

theorem EncodedLength.callFar (o : Word) (g : Word) : EncodedLength.Statement (.callFar o g) := length_far _ _ _

theorem EncodedLength.callRm16 (m : Rm16) : EncodedLength.Statement (.callRm16 m) :=
  length_operand _ _ (encRm16_length _ m)

theorem EncodedLength.callM (m : MemOp) : EncodedLength.Statement (.callM m) := length_operand _ _ (encMem_length _ m)

theorem EncodedLength.jmpRel8 (d : Byte) : EncodedLength.Statement (.jmpRel8 d) := length_two _ _

theorem EncodedLength.jmpRel16 (d : Word) : EncodedLength.Statement (.jmpRel16 d) := length_word _ _

theorem EncodedLength.jmpFar (o : Word) (g : Word) : EncodedLength.Statement (.jmpFar o g) := length_far _ _ _

theorem EncodedLength.jmpRm16 (m : Rm16) : EncodedLength.Statement (.jmpRm16 m) :=
  length_operand _ _ (encRm16_length _ m)

theorem EncodedLength.jmpM (m : MemOp) : EncodedLength.Statement (.jmpM m) := length_operand _ _ (encMem_length _ m)

theorem EncodedLength.hlt : EncodedLength.Statement (.hlt) := length_one _

theorem EncodedLength.cmc : EncodedLength.Statement (.cmc) := length_one _

theorem EncodedLength.unused (op : Byte) (next : Byte) : EncodedLength.Statement (.unused op next) := length_two _ _

theorem EncodedLength.notRm8 (d : Rm8) : EncodedLength.Statement (.notRm8 d) := length_operand _ _ (encRm8_length _ d)

theorem EncodedLength.notRm16 (d : Rm16) : EncodedLength.Statement (.notRm16 d) :=
  length_operand _ _ (encRm16_length _ d)

theorem EncodedLength.negRm8 (d : Rm8) : EncodedLength.Statement (.negRm8 d) := length_operand _ _ (encRm8_length _ d)

theorem EncodedLength.negRm16 (d : Rm16) : EncodedLength.Statement (.negRm16 d) :=
  length_operand _ _ (encRm16_length _ d)

theorem EncodedLength.mulRm8 (m : Rm8) : EncodedLength.Statement (.mulRm8 m) := length_operand _ _ (encRm8_length _ m)

theorem EncodedLength.mulRm16 (m : Rm16) : EncodedLength.Statement (.mulRm16 m) :=
  length_operand _ _ (encRm16_length _ m)

theorem EncodedLength.imulRm8 (m : Rm8) : EncodedLength.Statement (.imulRm8 m) := length_operand _ _ (encRm8_length _ m)

theorem EncodedLength.imulRm16 (m : Rm16) : EncodedLength.Statement (.imulRm16 m) :=
  length_operand _ _ (encRm16_length _ m)

theorem EncodedLength.divRm8 (m : Rm8) : EncodedLength.Statement (.divRm8 m) := length_operand _ _ (encRm8_length _ m)

theorem EncodedLength.divRm16 (m : Rm16) : EncodedLength.Statement (.divRm16 m) :=
  length_operand _ _ (encRm16_length _ m)

theorem EncodedLength.idivRm8 (m : Rm8) : EncodedLength.Statement (.idivRm8 m) := length_operand _ _ (encRm8_length _ m)

theorem EncodedLength.idivRm16 (m : Rm16) : EncodedLength.Statement (.idivRm16 m) :=
  length_operand _ _ (encRm16_length _ m)

theorem EncodedLength.clc : EncodedLength.Statement (.clc) := length_one _

theorem EncodedLength.stc : EncodedLength.Statement (.stc) := length_one _

theorem EncodedLength.cli : EncodedLength.Statement (.cli) := length_one _

theorem EncodedLength.sti : EncodedLength.Statement (.sti) := length_one _

theorem EncodedLength.cld : EncodedLength.Statement (.cld) := length_one _

theorem EncodedLength.std : EncodedLength.Statement (.std) := length_one _

end Sys2Proof.Laws
end

