-- ==== Sys2Proof/Laws/Unused.lean ====
section
/-! SUPPORT. The model's table of unused encodings is the list that 30_encoding R103 prints. -/

namespace Sys2Proof.Machine

/-- Equality of bit vectors, as numbers. -/
theorem beq_eq_toNat {n : Nat} (a b : BitVec n) : (a == b) = decide (a.toNat = b.toNat) := by
  rw [beq_eq_decide]; simp only [BitVec.toNat_eq]

theorem bne_eq_toNat {n : Nat} (a b : BitVec n) : (a != b) = !decide (a.toNat = b.toNat) := by
  rw [bne, beq_eq_toNat]

/-- Bit 5 of ModRegR/M is the top bit of Reg (R88). -/
theorem bit5_eq_le (b : Byte) : b[5] = decide (4 ≤ (regOf b).toNat) := by revert b; decide

/-- The table `unusedPair` and the printed list agree (R103). -/
theorem unusedPair_eq_listedR103 (op next : Byte) : unusedPair op next = listedR103 op next := by
  unfold unusedPair listedR103
  generalize op.toNat = o
  split
  case h_44 => simp_all; omega
  all_goals simp [bit5_eq_le, beq_eq_toNat, bne_eq_toNat, Bool.or_assoc, -beq_eq_beq]
  all_goals rw [Bool.eq_iff_iff]; simp <;> omega

end Sys2Proof.Machine
end

