-- ==== Sys2Proof/Tests/Slice0.lean ====
section
/-! SUPPORT. The model's own tests: ill-formed terms refused, written-out encodings decoded, single steps against the spec's vectors
(95_test_vectors), and for each statement with hypotheses a state and operands that meet them. -/

namespace Sys2Proof.Tests

open Sys2Proof Sys2Proof.Machine

/-! ### Well-formedness: each check refuses an ill-formed term (30_encoding R92, R103) -/

theorem test_wf_refuses_bp_alone_rm8 : Instr.wf (.addRm8R8 (.mem (.ind .bp)) .al) = false := by decide

theorem test_wf_refuses_bp_alone_rm16 : Instr.wf (.popRm16 (.mem (.ind .bp))) = false := by decide

theorem test_wf_refuses_bp_alone_memory : Instr.wf (.lea .ax (.ind .bp)) = false := by decide

theorem test_wf_refuses_used_pair : Instr.wf (.unused 0x90 0x00) = false ∧ Instr.wf (.unused 0xD4 0x0A) = false := by decide

theorem test_wf_accepts :
    Instr.wf (.addRm8R8 (.mem (.ind8 .bp 0)) .al) = true ∧ Instr.wf (.unused 0xD4 0x0B) = true := by decide

/-! ### Encodings -/

/-- Words written out from the encodings of the opcode table (Arithmetic, 30_encoding R92). -/
theorem test_decode_arithmetic_1 :
    decode [0x00, 0x24] = .ok (.addRm8R8 (.mem (.ind .si)) .ah, []) ∧
    decode [0x01, 0x7E, 0xFE] = .ok (.addRm16R16 (.mem (.ind8 .bp 0xFE)) .di, []) ∧
    decode [0x02, 0xD1] = .ok (.addR8Rm8 .dl (.reg .cl), []) ∧
    decode [0x03, 0x28] = .ok (.addR16Rm16 .bp (.mem (.ind .bxsi)), []) ∧
    decode [0x04, 0x85] = .ok (.addAlImm8 0x85, []) ∧
    decode [0x05, 0xCD, 0xAB] = .ok (.addAxImm16 0xABCD, []) ∧
    decode [0x80, 0x03, 0x85] = .ok (.addRm8Imm8 (.mem (.ind .bpdi)) 0x85, []) ∧
    decode [0x81, 0x45, 0x80, 0xCD, 0xAB] = .ok (.addRm16Imm16 (.mem (.ind8 .di 0x80)) 0xABCD, []) ∧
    decode [0x83, 0xC7, 0x85] = .ok (.addRm16Imm8 (.reg .di) 0x85, []) ∧
    decode [0x10, 0xFC] = .ok (.adcRm8R8 (.reg .ah) .bh, []) ∧
    decode [0x11, 0x96, 0x01, 0x00] = .ok (.adcRm16R16 (.mem (.ind16 .bp 0x0001)) .dx, []) ∧
    decode [0x12, 0x2E, 0x34, 0x12] = .ok (.adcR8Rm8 .ch (.mem (.abs 0x1234)), []) :=
  ⟨rfl, rfl, rfl, rfl, rfl, rfl, rfl, rfl, rfl, rfl, rfl, rfl⟩

/-- Words written out from the encodings of the opcode table (Arithmetic, 30_encoding R92). -/
theorem test_decode_arithmetic_2 :
    decode [0x13, 0xC3] = .ok (.adcR16Rm16 .ax (.reg .bx), []) ∧
    decode [0x14, 0x85] = .ok (.adcAlImm8 0x85, []) ∧
    decode [0x15, 0xCD, 0xAB] = .ok (.adcAxImm16 0xABCD, []) ∧
    decode [0x80, 0xD2, 0x85] = .ok (.adcRm8Imm8 (.reg .dl) 0x85, []) ∧
    decode [0x81, 0x57, 0x7F, 0xCD, 0xAB] = .ok (.adcRm16Imm16 (.mem (.ind8 .bx 0x7F)) 0xABCD, []) ∧
    decode [0x83, 0x92, 0x00, 0x80, 0x85] = .ok (.adcRm16Imm8 (.mem (.ind16 .bpsi 0x8000)) 0x85, []) ∧
    decode [0x18, 0xD1] = .ok (.sbbRm8R8 (.reg .cl) .dl, []) ∧
    decode [0x19, 0x6D, 0x80] = .ok (.sbbRm16R16 (.mem (.ind8 .di 0x80)) .bp, []) ∧
    decode [0x1A, 0x86, 0x01, 0x00] = .ok (.sbbR8Rm8 .al (.mem (.ind16 .bp 0x0001)), []) ∧
    decode [0x1B, 0xD8] = .ok (.sbbR16Rm16 .bx (.reg .ax), []) ∧
    decode [0x1C, 0x85] = .ok (.sbbAlImm8 0x85, []) ∧
    decode [0x1D, 0xCD, 0xAB] = .ok (.sbbAxImm16 0xABCD, []) :=
  ⟨rfl, rfl, rfl, rfl, rfl, rfl, rfl, rfl, rfl, rfl, rfl, rfl⟩

/-- Words written out from the encodings of the opcode table (Arithmetic, 30_encoding R92). -/
theorem test_decode_arithmetic_3 :
    decode [0x80, 0xDF, 0x85] = .ok (.sbbRm8Imm8 (.reg .bh) 0x85, []) ∧
    decode [0x81, 0x18, 0xCD, 0xAB] = .ok (.sbbRm16Imm16 (.mem (.ind .bxsi)) 0xABCD, []) ∧
    decode [0x83, 0x5F, 0x7F, 0x85] = .ok (.sbbRm16Imm8 (.mem (.ind8 .bx 0x7F)) 0x85, []) ∧
    decode [0x28, 0x28] = .ok (.subRm8R8 (.mem (.ind .bxsi)) .ch, []) ∧
    decode [0x29, 0xC3] = .ok (.subRm16R16 (.reg .bx) .ax, []) ∧
    decode [0x2A, 0x9A, 0x00, 0x80] = .ok (.subR8Rm8 .bl (.mem (.ind16 .bpsi 0x8000)), []) ∧
    decode [0x2B, 0x33] = .ok (.subR16Rm16 .si (.mem (.ind .bpdi)), []) ∧
    decode [0x2C, 0x85] = .ok (.subAlImm8 0x85, []) ∧
    decode [0x2D, 0xCD, 0xAB] = .ok (.subAxImm16 0xABCD, []) ∧
    decode [0x80, 0x2E, 0x34, 0x12, 0x85] = .ok (.subRm8Imm8 (.mem (.abs 0x1234)) 0x85, []) ∧
    decode [0x81, 0xE9, 0xCD, 0xAB] = .ok (.subRm16Imm16 (.reg .cx) 0xABCD, []) ∧
    decode [0x83, 0x6E, 0xFE, 0x85] = .ok (.subRm16Imm8 (.mem (.ind8 .bp 0xFE)) 0x85, []) :=
  ⟨rfl, rfl, rfl, rfl, rfl, rfl, rfl, rfl, rfl, rfl, rfl, rfl⟩

/-- Words written out from the encodings of the opcode table (Arithmetic, 30_encoding R92). -/
theorem test_decode_arithmetic_4 :
    decode [0x38, 0x04] = .ok (.cmpRm8R8 (.mem (.ind .si)) .al, []) ∧
    decode [0x39, 0x5E, 0xFE] = .ok (.cmpRm16R16 (.mem (.ind8 .bp 0xFE)) .bx, []) ∧
    decode [0x3A, 0xF5] = .ok (.cmpR8Rm8 .dh (.reg .ch), []) ∧
    decode [0x3B, 0x08] = .ok (.cmpR16Rm16 .cx (.mem (.ind .bxsi)), []) ∧
    decode [0x3C, 0x85] = .ok (.cmpAlImm8 0x85, []) ∧
    decode [0x3D, 0xCD, 0xAB] = .ok (.cmpAxImm16 0xABCD, []) ∧
    decode [0x80, 0x3B, 0x85] = .ok (.cmpRm8Imm8 (.mem (.ind .bpdi)) 0x85, []) ∧
    decode [0x81, 0x7D, 0x80, 0xCD, 0xAB] = .ok (.cmpRm16Imm16 (.mem (.ind8 .di 0x80)) 0xABCD, []) ∧
    decode [0x83, 0xFB, 0x85] = .ok (.cmpRm16Imm8 (.reg .bx) 0x85, []) ∧
    decode [0x43] = .ok (.incR16 .bx, []) ∧
    decode [0xFE, 0x47, 0x7F] = .ok (.incRm8 (.mem (.ind8 .bx 0x7F)), []) ∧
    decode [0xFF, 0xC2] = .ok (.incRm16 (.reg .dx), []) :=
  ⟨rfl, rfl, rfl, rfl, rfl, rfl, rfl, rfl, rfl, rfl, rfl, rfl⟩

/-- Words written out from the encodings of the opcode table (Arithmetic, 30_encoding R92). -/
theorem test_decode_arithmetic_5 :
    decode [0x4C] = .ok (.decR16 .sp, []) ∧
    decode [0xFE, 0x4D, 0x80] = .ok (.decRm8 (.mem (.ind8 .di 0x80)), []) ∧
    decode [0xFF, 0xC9] = .ok (.decRm16 (.reg .cx), []) ∧
    decode [0xF6, 0xDD] = .ok (.negRm8 (.reg .ch), []) ∧
    decode [0xF7, 0x5E, 0xFE] = .ok (.negRm16 (.mem (.ind8 .bp 0xFE)), []) ∧
    decode [0xF6, 0xA1, 0x78, 0x56] = .ok (.mulRm8 (.mem (.ind16 .bxdi 0x5678)), []) ∧
    decode [0xF7, 0xE4] = .ok (.mulRm16 (.reg .sp), []) ∧
    decode [0xF6, 0x6F, 0x7F] = .ok (.imulRm8 (.mem (.ind8 .bx 0x7F)), []) ∧
    decode [0xF7, 0xAA, 0x00, 0x80] = .ok (.imulRm16 (.mem (.ind16 .bpsi 0x8000)), []) ∧
    decode [0xF6, 0xF3] = .ok (.divRm8 (.reg .bl), []) ∧
    decode [0xF7, 0x75, 0x80] = .ok (.divRm16 (.mem (.ind8 .di 0x80)), []) ∧
    decode [0xF6, 0xBE, 0x01, 0x00] = .ok (.idivRm8 (.mem (.ind16 .bp 0x0001)), []) :=
  ⟨rfl, rfl, rfl, rfl, rfl, rfl, rfl, rfl, rfl, rfl, rfl, rfl⟩

/-- Words written out from the encodings of the opcode table (Arithmetic, 30_encoding R92). -/
theorem test_decode_arithmetic_6 :
    decode [0xF7, 0xFA] = .ok (.idivRm16 (.reg .dx), []) :=
  rfl

/-- Words written out from the encodings of the opcode table (Logic, 30_encoding R92). -/
theorem test_decode_logic_1 :
    decode [0x08, 0x3E, 0x34, 0x12] = .ok (.orRm8R8 (.mem (.abs 0x1234)) .bh, []) ∧
    decode [0x09, 0x14] = .ok (.orRm16R16 (.mem (.ind .si)) .dx, []) ∧
    decode [0x0A, 0xEE] = .ok (.orR8Rm8 .ch (.reg .dh), []) ∧
    decode [0x0B, 0x81, 0x78, 0x56] = .ok (.orR16Rm16 .ax (.mem (.ind16 .bxdi 0x5678)), []) ∧
    decode [0x0C, 0x85] = .ok (.orAlImm8 0x85, []) ∧
    decode [0x0D, 0xCD, 0xAB] = .ok (.orAxImm16 0xABCD, []) ∧
    decode [0x80, 0x8A, 0x00, 0x80, 0x85] = .ok (.orRm8Imm8 (.mem (.ind16 .bpsi 0x8000)) 0x85, []) ∧
    decode [0x81, 0x0B, 0xCD, 0xAB] = .ok (.orRm16Imm16 (.mem (.ind .bpdi)) 0xABCD, []) ∧
    decode [0x20, 0xEE] = .ok (.andRm8R8 (.reg .dh) .ch, []) ∧
    decode [0x21, 0x03] = .ok (.andRm16R16 (.mem (.ind .bpdi)) .ax, []) ∧
    decode [0x22, 0x5D, 0x80] = .ok (.andR8Rm8 .bl (.mem (.ind8 .di 0x80)), []) ∧
    decode [0x23, 0xF5] = .ok (.andR16Rm16 .si (.reg .bp), []) :=
  ⟨rfl, rfl, rfl, rfl, rfl, rfl, rfl, rfl, rfl, rfl, rfl, rfl⟩

/-- Words written out from the encodings of the opcode table (Logic, 30_encoding R92). -/
theorem test_decode_logic_2 :
    decode [0x24, 0x85] = .ok (.andAlImm8 0x85, []) ∧
    decode [0x25, 0xCD, 0xAB] = .ok (.andAxImm16 0xABCD, []) ∧
    decode [0x80, 0xE4, 0x85] = .ok (.andRm8Imm8 (.reg .ah) 0x85, []) ∧
    decode [0x81, 0xA1, 0x78, 0x56, 0xCD, 0xAB] = .ok (.andRm16Imm16 (.mem (.ind16 .bxdi 0x5678)) 0xABCD, []) ∧
    decode [0x30, 0x81, 0x78, 0x56] = .ok (.xorRm8R8 (.mem (.ind16 .bxdi 0x5678)) .al, []) ∧
    decode [0x31, 0xD8] = .ok (.xorRm16R16 (.reg .ax) .bx, []) ∧
    decode [0x32, 0x77, 0x7F] = .ok (.xorR8Rm8 .dh (.mem (.ind8 .bx 0x7F)), []) ∧
    decode [0x33, 0x8A, 0x00, 0x80] = .ok (.xorR16Rm16 .cx (.mem (.ind16 .bpsi 0x8000)), []) ∧
    decode [0x34, 0x85] = .ok (.xorAlImm8 0x85, []) ∧
    decode [0x35, 0xCD, 0xAB] = .ok (.xorAxImm16 0xABCD, []) ∧
    decode [0x80, 0xB6, 0x01, 0x00, 0x85] = .ok (.xorRm8Imm8 (.mem (.ind16 .bp 0x0001)) 0x85, []) ∧
    decode [0x81, 0xF6, 0xCD, 0xAB] = .ok (.xorRm16Imm16 (.reg .si) 0xABCD, []) :=
  ⟨rfl, rfl, rfl, rfl, rfl, rfl, rfl, rfl, rfl, rfl, rfl, rfl⟩

/-- Words written out from the encodings of the opcode table (Logic, 30_encoding R92). -/
theorem test_decode_logic_3 :
    decode [0x84, 0xAA, 0x00, 0x80] = .ok (.testRm8R8 (.mem (.ind16 .bpsi 0x8000)) .ch, []) ∧
    decode [0x85, 0xC3] = .ok (.testRm16R16 (.reg .bx) .ax, []) ∧
    decode [0xA8, 0x85] = .ok (.testAlImm8 0x85, []) ∧
    decode [0xA9, 0xCD, 0xAB] = .ok (.testAxImm16 0xABCD, []) ∧
    decode [0xF6, 0xC2, 0x85] = .ok (.testRm8Imm8 (.reg .dl) 0x85, []) ∧
    decode [0xF7, 0x04, 0xCD, 0xAB] = .ok (.testRm16Imm16 (.mem (.ind .si)) 0xABCD, []) ∧
    decode [0xF6, 0x96, 0x01, 0x00] = .ok (.notRm8 (.mem (.ind16 .bp 0x0001)), []) ∧
    decode [0xF7, 0x16, 0x34, 0x12] = .ok (.notRm16 (.mem (.abs 0x1234)), []) :=
  ⟨rfl, rfl, rfl, rfl, rfl, rfl, rfl, rfl⟩

/-- Words written out from the encodings of the opcode table (DataTransfer, 30_encoding R92). -/
theorem test_decode_data_transfer_1 :
    decode [0x06] = .ok (.pushEs, []) ∧
    decode [0x0E] = .ok (.pushCs, []) ∧
    decode [0x16] = .ok (.pushSs, []) ∧
    decode [0x1E] = .ok (.pushDs, []) ∧
    decode [0x57] = .ok (.pushR16 .di, []) ∧
    decode [0xFF, 0xF1] = .ok (.pushRm16 (.reg .cx), []) ∧
    decode [0x07] = .ok (.popEs, []) ∧
    decode [0x17] = .ok (.popSs, []) ∧
    decode [0x1F] = .ok (.popDs, []) ∧
    decode [0x5E] = .ok (.popR16 .si, []) ∧
    decode [0x8F, 0x06, 0x34, 0x12] = .ok (.popRm16 (.mem (.abs 0x1234)), []) ∧
    decode [0x86, 0x7E, 0xFE] = .ok (.xchgRm8R8 (.mem (.ind8 .bp 0xFE)) .bh, []) :=
  ⟨rfl, rfl, rfl, rfl, rfl, rfl, rfl, rfl, rfl, rfl, rfl, rfl⟩

/-- Words written out from the encodings of the opcode table (DataTransfer, 30_encoding R92). -/
theorem test_decode_data_transfer_2 :
    decode [0x87, 0xD1] = .ok (.xchgRm16R16 (.reg .cx) .dx, []) ∧
    decode [0x91] = .ok (.xchgAxCx, []) ∧
    decode [0x92] = .ok (.xchgAxDx, []) ∧
    decode [0x93] = .ok (.xchgAxBx, []) ∧
    decode [0x94] = .ok (.xchgAxSp, []) ∧
    decode [0x95] = .ok (.xchgAxBp, []) ∧
    decode [0x96] = .ok (.xchgAxSi, []) ∧
    decode [0x97] = .ok (.xchgAxDi, []) ∧
    decode [0x88, 0x14] = .ok (.movRm8R8 (.mem (.ind .si)) .dl, []) ∧
    decode [0x89, 0xEE] = .ok (.movRm16R16 (.reg .si) .bp, []) ∧
    decode [0x8A, 0x81, 0x78, 0x56] = .ok (.movR8Rm8 .al (.mem (.ind16 .bxdi 0x5678)), []) ∧
    decode [0x8B, 0x18] = .ok (.movR16Rm16 .bx (.mem (.ind .bxsi)), []) :=
  ⟨rfl, rfl, rfl, rfl, rfl, rfl, rfl, rfl, rfl, rfl, rfl, rfl⟩

/-- Words written out from the encodings of the opcode table (DataTransfer, 30_encoding R92). -/
theorem test_decode_data_transfer_3 :
    decode [0x8C, 0xDD] = .ok (.movRm16Sreg (.reg .bp) .ds, []) ∧
    decode [0x8E, 0x82, 0x00, 0x80] = .ok (.movEsRm16 (.mem (.ind16 .bpsi 0x8000)), []) ∧
    decode [0x8E, 0x13] = .ok (.movSsRm16 (.mem (.ind .bpdi)), []) ∧
    decode [0x8E, 0xDC] = .ok (.movDsRm16 (.reg .sp), []) ∧
    decode [0xA0, 0xCD, 0xAB] = .ok (.movAlM8 0xABCD, []) ∧
    decode [0xA1, 0xCD, 0xAB] = .ok (.movAxM16 0xABCD, []) ∧
    decode [0xA2, 0xCD, 0xAB] = .ok (.movM8Al 0xABCD, []) ∧
    decode [0xA3, 0xCD, 0xAB] = .ok (.movM16Ax 0xABCD, []) ∧
    decode [0xB6, 0x85] = .ok (.movR8Imm8 .dh 0x85, []) ∧
    decode [0xB9, 0xCD, 0xAB] = .ok (.movR16Imm16 .cx 0xABCD, []) ∧
    decode [0xC6, 0x47, 0x7F, 0x85] = .ok (.movRm8Imm8 (.mem (.ind8 .bx 0x7F)) 0x85, []) ∧
    decode [0xC7, 0x82, 0x00, 0x80, 0xCD, 0xAB] = .ok (.movRm16Imm16 (.mem (.ind16 .bpsi 0x8000)) 0xABCD, []) :=
  ⟨rfl, rfl, rfl, rfl, rfl, rfl, rfl, rfl, rfl, rfl, rfl, rfl⟩

/-- Words written out from the encodings of the opcode table (DataTransfer, 30_encoding R92). -/
theorem test_decode_data_transfer_4 :
    decode [0x8D, 0x13] = .ok (.lea .dx (.ind .bpdi), []) ∧
    decode [0xC4, 0x6D, 0x80] = .ok (.les .bp (.ind8 .di 0x80), []) ∧
    decode [0xC5, 0x86, 0x01, 0x00] = .ok (.lds .ax (.ind16 .bp 0x0001), []) ∧
    decode [0x98] = .ok (.cbw, []) ∧
    decode [0x99] = .ok (.cwd, []) ∧
    decode [0x9C] = .ok (.pushf, []) ∧
    decode [0x9D] = .ok (.popf, []) ∧
    decode [0x9E] = .ok (.sahf, []) ∧
    decode [0x9F] = .ok (.lahf, []) ∧
    decode [0xD7] = .ok (.xlatb, []) ∧
    decode [0xE4, 0x85] = .ok (.inAlImm8 0x85, []) ∧
    decode [0xE5, 0x85] = .ok (.inAxImm8 0x85, []) :=
  ⟨rfl, rfl, rfl, rfl, rfl, rfl, rfl, rfl, rfl, rfl, rfl, rfl⟩

/-- Words written out from the encodings of the opcode table (DataTransfer, 30_encoding R92). -/
theorem test_decode_data_transfer_5 :
    decode [0xE6, 0x85] = .ok (.outImm8Al 0x85, []) ∧
    decode [0xE7, 0x85] = .ok (.outImm8Ax 0x85, []) ∧
    decode [0xEC] = .ok (.inAlDx, []) ∧
    decode [0xED] = .ok (.inAxDx, []) ∧
    decode [0xEE] = .ok (.outDxAl, []) ∧
    decode [0xEF] = .ok (.outDxAx, []) :=
  ⟨rfl, rfl, rfl, rfl, rfl, rfl⟩

/-- Words written out from the encodings of the opcode table (Prefix, 30_encoding R92). -/
theorem test_decode_prefix_1 :
    decode [0x26] = .ok (.segEs, []) ∧
    decode [0x2E] = .ok (.segCs, []) ∧
    decode [0x36] = .ok (.segSs, []) ∧
    decode [0x3E] = .ok (.segDs, []) ∧
    decode [0xF0] = .ok (.lock, []) ∧
    decode [0xF2] = .ok (.repne, []) ∧
    decode [0xF3] = .ok (.rep, []) :=
  ⟨rfl, rfl, rfl, rfl, rfl, rfl, rfl⟩

/-- Words written out from the encodings of the opcode table (Adjust, 30_encoding R92). -/
theorem test_decode_adjust_1 :
    decode [0x27] = .ok (.daa, []) ∧
    decode [0x2F] = .ok (.das, []) ∧
    decode [0x37] = .ok (.aaa, []) ∧
    decode [0x3F] = .ok (.aas, []) ∧
    decode [0xD4, 0x0A] = .ok (.aam, []) ∧
    decode [0xD5, 0x0A] = .ok (.aad, []) :=
  ⟨rfl, rfl, rfl, rfl, rfl, rfl⟩

/-- Words written out from the encodings of the opcode table (Control, 30_encoding R92). -/
theorem test_decode_control_1 :
    decode [0x70, 0x85] = .ok (.jo 0x85, []) ∧
    decode [0x71, 0x85] = .ok (.jno 0x85, []) ∧
    decode [0x72, 0x85] = .ok (.jb 0x85, []) ∧
    decode [0x73, 0x85] = .ok (.jnb 0x85, []) ∧
    decode [0x74, 0x85] = .ok (.je 0x85, []) ∧
    decode [0x75, 0x85] = .ok (.jne 0x85, []) ∧
    decode [0x76, 0x85] = .ok (.jbe 0x85, []) ∧
    decode [0x77, 0x85] = .ok (.jnbe 0x85, []) ∧
    decode [0x78, 0x85] = .ok (.js 0x85, []) ∧
    decode [0x79, 0x85] = .ok (.jns 0x85, []) ∧
    decode [0x7A, 0x85] = .ok (.jp 0x85, []) ∧
    decode [0x7B, 0x85] = .ok (.jnp 0x85, []) :=
  ⟨rfl, rfl, rfl, rfl, rfl, rfl, rfl, rfl, rfl, rfl, rfl, rfl⟩

/-- Words written out from the encodings of the opcode table (Control, 30_encoding R92). -/
theorem test_decode_control_2 :
    decode [0x7C, 0x85] = .ok (.jl 0x85, []) ∧
    decode [0x7D, 0x85] = .ok (.jnl 0x85, []) ∧
    decode [0x7E, 0x85] = .ok (.jle 0x85, []) ∧
    decode [0x7F, 0x85] = .ok (.jnle 0x85, []) ∧
    decode [0xC2, 0xCD, 0xAB] = .ok (.retNearImm16 0xABCD, []) ∧
    decode [0xC3] = .ok (.retNear, []) ∧
    decode [0xCA, 0xCD, 0xAB] = .ok (.retFarImm16 0xABCD, []) ∧
    decode [0xCB] = .ok (.retFar, []) ∧
    decode [0xCC] = .ok (.int3, []) ∧
    decode [0xCD, 0x85] = .ok (.int 0x85, []) ∧
    decode [0xCE] = .ok (.into, []) ∧
    decode [0xCF] = .ok (.iret, []) :=
  ⟨rfl, rfl, rfl, rfl, rfl, rfl, rfl, rfl, rfl, rfl, rfl, rfl⟩

/-- Words written out from the encodings of the opcode table (Control, 30_encoding R92). -/
theorem test_decode_control_3 :
    decode [0xE0, 0x85] = .ok (.loopne 0x85, []) ∧
    decode [0xE1, 0x85] = .ok (.loope 0x85, []) ∧
    decode [0xE2, 0x85] = .ok (.loop 0x85, []) ∧
    decode [0xE3, 0x85] = .ok (.jcxz 0x85, []) ∧
    decode [0xE8, 0xCD, 0xAB] = .ok (.callRel16 0xABCD, []) ∧
    decode [0x9A, 0xCD, 0xAB, 0x34, 0x12] = .ok (.callFar 0xABCD 0x1234, []) ∧
    decode [0xFF, 0x16, 0x34, 0x12] = .ok (.callRm16 (.mem (.abs 0x1234)), []) ∧
    decode [0xFF, 0x1C] = .ok (.callM (.ind .si), []) ∧
    decode [0xEB, 0x85] = .ok (.jmpRel8 0x85, []) ∧
    decode [0xE9, 0xCD, 0xAB] = .ok (.jmpRel16 0xABCD, []) ∧
    decode [0xEA, 0xCD, 0xAB, 0x34, 0x12] = .ok (.jmpFar 0xABCD 0x1234, []) ∧
    decode [0xFF, 0xE7] = .ok (.jmpRm16 (.reg .di), []) :=
  ⟨rfl, rfl, rfl, rfl, rfl, rfl, rfl, rfl, rfl, rfl, rfl, rfl⟩

/-- Words written out from the encodings of the opcode table (Control, 30_encoding R92). -/
theorem test_decode_control_4 :
    decode [0xFF, 0xAA, 0x00, 0x80] = .ok (.jmpM (.ind16 .bpsi 0x8000), []) :=
  rfl

/-- Words written out from the encodings of the opcode table (Processor, 30_encoding R92). -/
theorem test_decode_processor_1 :
    decode [0x90] = .ok (.nop, []) ∧
    decode [0x9B] = .ok (.wait, []) ∧
    decode [0xDD, 0x77, 0x7F] = .ok (.esc 0b101110 (.mem (.ind8 .bx 0x7F)), []) ∧
    decode [0xF4] = .ok (.hlt, []) ∧
    decode [0xF5] = .ok (.cmc, []) ∧
    decode [0xF8] = .ok (.clc, []) ∧
    decode [0xF9] = .ok (.stc, []) ∧
    decode [0xFA] = .ok (.cli, []) ∧
    decode [0xFB] = .ok (.sti, []) ∧
    decode [0xFC] = .ok (.cld, []) ∧
    decode [0xFD] = .ok (.std, []) :=
  ⟨rfl, rfl, rfl, rfl, rfl, rfl, rfl, rfl, rfl, rfl, rfl⟩

/-- Words written out from the encodings of the opcode table (Strings, 30_encoding R92). -/
theorem test_decode_strings_1 :
    decode [0xA4] = .ok (.movsb, []) ∧
    decode [0xA5] = .ok (.movsw, []) ∧
    decode [0xA6] = .ok (.cmpsb, []) ∧
    decode [0xA7] = .ok (.cmpsw, []) ∧
    decode [0xAA] = .ok (.stosb, []) ∧
    decode [0xAB] = .ok (.stosw, []) ∧
    decode [0xAC] = .ok (.lodsb, []) ∧
    decode [0xAD] = .ok (.lodsw, []) ∧
    decode [0xAE] = .ok (.scasb, []) ∧
    decode [0xAF] = .ok (.scasw, []) :=
  ⟨rfl, rfl, rfl, rfl, rfl, rfl, rfl, rfl, rfl, rfl⟩

/-- Words written out from the encodings of the opcode table (Shifts, 30_encoding R92). -/
theorem test_decode_shifts_1 :
    decode [0xD0, 0x82, 0x00, 0x80] = .ok (.rolRm8One (.mem (.ind16 .bpsi 0x8000)), []) ∧
    decode [0xD1, 0xC7] = .ok (.rolRm16One (.reg .di), []) ∧
    decode [0xD2, 0x45, 0x80] = .ok (.rolRm8Cl (.mem (.ind8 .di 0x80)), []) ∧
    decode [0xD3, 0x86, 0x01, 0x00] = .ok (.rolRm16Cl (.mem (.ind16 .bp 0x0001)), []) ∧
    decode [0xD0, 0xCE] = .ok (.rorRm8One (.reg .dh), []) ∧
    decode [0xD1, 0x0C] = .ok (.rorRm16One (.mem (.ind .si)), []) ∧
    decode [0xD2, 0x4E, 0xFE] = .ok (.rorRm8Cl (.mem (.ind8 .bp 0xFE)), []) ∧
    decode [0xD3, 0xCD] = .ok (.rorRm16Cl (.reg .bp), []) ∧
    decode [0xD0, 0x10] = .ok (.rclRm8One (.mem (.ind .bxsi)), []) ∧
    decode [0xD1, 0x57, 0x7F] = .ok (.rclRm16One (.mem (.ind8 .bx 0x7F)), []) ∧
    decode [0xD2, 0xD4] = .ok (.rclRm8Cl (.reg .ah), []) ∧
    decode [0xD3, 0x13] = .ok (.rclRm16Cl (.mem (.ind .bpdi)), []) :=
  ⟨rfl, rfl, rfl, rfl, rfl, rfl, rfl, rfl, rfl, rfl, rfl, rfl⟩

/-- Words written out from the encodings of the opcode table (Shifts, 30_encoding R92). -/
theorem test_decode_shifts_2 :
    decode [0xD0, 0x5D, 0x80] = .ok (.rcrRm8One (.mem (.ind8 .di 0x80)), []) ∧
    decode [0xD1, 0xDB] = .ok (.rcrRm16One (.reg .bx), []) ∧
    decode [0xD2, 0x1E, 0x34, 0x12] = .ok (.rcrRm8Cl (.mem (.abs 0x1234)), []) ∧
    decode [0xD3, 0x1C] = .ok (.rcrRm16Cl (.mem (.ind .si)), []) ∧
    decode [0xD0, 0xE2] = .ok (.salRm8One (.reg .dl), []) ∧
    decode [0xD1, 0xA1, 0x78, 0x56] = .ok (.salRm16One (.mem (.ind16 .bxdi 0x5678)), []) ∧
    decode [0xD2, 0x20] = .ok (.salRm8Cl (.mem (.ind .bxsi)), []) ∧
    decode [0xD3, 0xE1] = .ok (.salRm16Cl (.reg .cx), []) ∧
    decode [0xD0, 0xAA, 0x00, 0x80] = .ok (.shrRm8One (.mem (.ind16 .bpsi 0x8000)), []) ∧
    decode [0xD1, 0x2B] = .ok (.shrRm16One (.mem (.ind .bpdi)), []) ∧
    decode [0xD2, 0xE8] = .ok (.shrRm8Cl (.reg .al), []) ∧
    decode [0xD3, 0xAE, 0x01, 0x00] = .ok (.shrRm16Cl (.mem (.ind16 .bp 0x0001)), []) :=
  ⟨rfl, rfl, rfl, rfl, rfl, rfl, rfl, rfl, rfl, rfl, rfl, rfl⟩

/-- Words written out from the encodings of the opcode table (Shifts, 30_encoding R92). -/
theorem test_decode_shifts_3 :
    decode [0xD0, 0x3E, 0x34, 0x12] = .ok (.sarRm8One (.mem (.abs 0x1234)), []) ∧
    decode [0xD1, 0xFF] = .ok (.sarRm16One (.reg .di), []) ∧
    decode [0xD2, 0x7E, 0xFE] = .ok (.sarRm8Cl (.mem (.ind8 .bp 0xFE)), []) ∧
    decode [0xD3, 0xB9, 0x78, 0x56] = .ok (.sarRm16Cl (.mem (.ind16 .bxdi 0x5678)), []) :=
  ⟨rfl, rfl, rfl, rfl⟩

/-- The rows of the table that it calls unused (30_encoding R103), each at its smallest word. -/
theorem test_decode_unused :
    [(0x0F, 0x00), (0x60, 0x00), (0x82, 0x00), (0x83, 0x08), (0x83, 0x20), (0x83, 0x30), (0x8C, 0x20), 
      (0x8D, 0xC0), (0x8E, 0x08), (0x8E, 0x20), (0x8F, 0x08), (0x8F, 0x10), (0x8F, 0x18), (0x8F, 0x20), 
      (0x8F, 0x28), (0x8F, 0x30), (0x8F, 0x38), (0xC0, 0x00), (0xC1, 0x00), (0xC4, 0xC0), (0xC5, 0xC0), 
      (0xC6, 0x08), (0xC6, 0x10), (0xC6, 0x18), (0xC6, 0x20), (0xC6, 0x28), (0xC6, 0x30), (0xC6, 0x38), 
      (0xC7, 0x08), (0xC7, 0x10), (0xC7, 0x18), (0xC7, 0x20), (0xC7, 0x28), (0xC7, 0x30), (0xC7, 0x38), 
      (0xC8, 0x00), (0xC9, 0x00), (0xD0, 0x30), (0xD1, 0x30), (0xD2, 0x30), (0xD3, 0x30), (0xD4, 0x00), 
      (0xD5, 0x00), (0xD6, 0x00), (0xF1, 0x00), (0xF6, 0x08), (0xF7, 0x08), (0xFE, 0x10), (0xFE, 0x18), 
      (0xFE, 0x20), (0xFE, 0x28), (0xFE, 0x30), (0xFE, 0x38), (0xFF, 0xD8), (0xFF, 0xE8), (0xFF, 0x38)].all
      (fun p => decode [p.1, p.2] == .ok (.unused p.1 p.2, [])) = true := by decide

/-- Bytes that end inside an instruction are no instruction. -/
theorem test_decode_truncated : decode [] = .error .truncated ∧ decode [0x81, 0x06, 0x00] = .error .truncated := ⟨rfl, rfl⟩

/-- The table numbers a row's opcode in bits 15:8 and its second byte in bits 7:0 (notes/assumptions/10.md). -/
theorem test_decode_table_word :
    decodeTableWord 16 0xFE00 = some (.incRm8 (.mem (.ind .bxsi))) ∧ decodeTableWord 16 0xD40A = some .aam := ⟨rfl, rfl⟩

/-! ### Single steps, each against a row of 95_test_vectors -/

/-- The general registers of the default state of 95_test_vectors. -/
def vregs : Regs := ⟨0, 0, 0, 0, 0x0100, 0, 0, 0⟩

/-- The segment registers of the default state of 95_test_vectors. -/
def vsegs : Segs := { cs := 0x1000, ds := 0x2000, es := 0x3000, ss := 0x4000 }

/-- Memory with bytes written from an address on. -/
def bytesFrom (m : Memory) (a : Nat) : List Byte → Memory
  | [] => m
  | b :: bs => bytesFrom (m.write a b) (a + 1) bs

/-- The default state of 95_test_vectors with the code at 1000:0100, and further bytes, registers and FLAGS. -/
def start (code : List Byte) (data : List (Nat × List Byte)) (g : Regs) (f : Word) : State :=
  { State.reset with
    regs := g, segs := vsegs, ip := 0x0100, flags := Flags.ofWord f
    mem := data.foldl (fun m d => bytesFrom m d.1 d.2) (bytesFrom [] 0x10100 code) }

/-- What a next state shows. -/
def after {α : Type} (o : Host.Outcome State Fault Refusal) (f : State → α) : Option α :=
  match o with
  | .next t => some (f t)
  | .fault _ | .refused _ => none

/-- Why a step is refused. -/
def refusal (o : Host.Outcome State Fault Refusal) : Option Refusal :=
  match o with
  | .refused r => some r
  | .next _ | .fault _ => none

/-- 95_test_vectors 2.2. -/
theorem test_mov_register :
    after (step (start [0x89, 0xD8] [] { vregs with bx := 0x1234 } 0xF002))
        (fun t => (t.regs, t.ip, t.flags.toWord)) =
      some ({ vregs with ax := 0x1234, bx := 0x1234 }, 0x0102, 0xF002) := by decide

/-- 95_test_vectors 2.2. -/
theorem test_mov_immediate :
    after (step (start [0xBE, 0x01, 0x80] [] vregs 0xF002))
        (fun t => (t.regs, t.ip, t.flags.toWord)) =
      some ({ vregs with si := 0x8001 }, 0x0103, 0xF002) := by decide

/-- 95_test_vectors 2.2. -/
theorem test_mov_direct_override :
    after (step (start [0x26, 0xA3, 0x10, 0x00] [] { vregs with ax := 0xCAFE } 0xF002))
        (fun t => (t.regs, t.ip, t.flags.toWord, [0x30010, 0x30011].map t.mem.read)) =
      some ({ vregs with ax := 0xCAFE }, 0x0104, 0xF002, [0xFE, 0xCA]) := by decide

/-- 95_test_vectors 2.2. -/
theorem test_mov_from_segment :
    after (step (start [0x8C, 0xC8] [] vregs 0xF002))
        (fun t => (t.regs, t.ip, t.flags.toWord)) =
      some ({ vregs with ax := 0x1000 }, 0x0102, 0xF002) := by decide

/-- 95_test_vectors 2.2. -/
theorem test_mov_to_segment :
    after (step (start [0x8E, 0xD8] [] { vregs with ax := 0x1234 } 0xF002))
        (fun t => (t.regs, t.ip, t.flags.toWord, t.segs)) =
      some ({ vregs with ax := 0x1234 }, 0x0102, 0xF002, { vsegs with ds := 0x1234 }) := by decide

/-- 95_test_vectors 2.2. -/
theorem test_xchg_memory :
    after (step (start [0x86, 0x07] [(0x20030, [0x34])] { vregs with ax := 0x0012, bx := 0x0030 } 0xF002))
        (fun t => (t.regs, t.ip, t.flags.toWord, [0x20030].map t.mem.read)) =
      some ({ vregs with ax := 0x0034, bx := 0x0030 }, 0x0102, 0xF002, [0x12]) := by decide

/-- 95_test_vectors 2.2. -/
theorem test_xchg_accumulator :
    after (step (start [0x93] [] { vregs with ax := 0x1111, bx := 0x2222 } 0xF002))
        (fun t => (t.regs, t.ip, t.flags.toWord)) =
      some ({ vregs with ax := 0x2222, bx := 0x1111 }, 0x0101, 0xF002) := by decide

/-- 95_test_vectors 2.2. -/
theorem test_push_sp :
    after (step (start [0x54] [] vregs 0xF002))
        (fun t => (t.regs, t.ip, t.flags.toWord, [0x400FE].map t.mem.read)) =
      some ({ vregs with sp := 0x00FE }, 0x0101, 0xF002, [0xFE]) := by decide

/-- 95_test_vectors 2.2. -/
theorem test_push_odd_sp :
    after (step (start [0x50] [] { vregs with ax := 0xABCD, sp := 0x0001 } 0xF002))
        (fun t => (t.regs, t.ip, t.flags.toWord, [0x40000, 0x4FFFF].map t.mem.read)) =
      some ({ vregs with ax := 0xABCD, sp := 0xFFFF }, 0x0101, 0xF002, [0xAB, 0xCD]) := by decide

/-- 95_test_vectors 2.2. -/
theorem test_pop_sp :
    after (step (start [0x5C] [(0x400FE, [0x34, 0x12])] { vregs with sp := 0x00FE } 0xF002))
        (fun t => (t.regs, t.ip, t.flags.toWord)) =
      some ({ vregs with sp := 0x1234 }, 0x0101, 0xF002) := by decide

/-- 95_test_vectors 2.2. -/
theorem test_pop_memory :
    after (step (start [0x8F, 0x06, 0x00, 0x03] [(0x400FE, [0x34, 0x12])] { vregs with sp := 0x00FE } 0xF002))
        (fun t => (t.regs, t.ip, t.flags.toWord, [0x20300, 0x20301].map t.mem.read)) =
      some (vregs, 0x0104, 0xF002, [0x34, 0x12]) := by decide

/-- 95_test_vectors 2.2. -/
theorem test_pushf :
    after (step (start [0x9C] [] vregs 0xFAD7))
        (fun t => (t.regs, t.ip, t.flags.toWord, [0x400FE, 0x400FF].map t.mem.read)) =
      some ({ vregs with sp := 0x00FE }, 0x0101, 0xFAD7, [0xD7, 0xFA]) := by decide

/-- 95_test_vectors 2.2. -/
theorem test_popf_reserved :
    after (step (start [0x9D] [(0x400FE, [0xFF, 0xFF])] { vregs with sp := 0x00FE } 0xF002))
        (fun t => (t.regs, t.ip, t.flags.toWord)) =
      some (vregs, 0x0101, 0xFFD7) := by decide

/-- 95_test_vectors 2.2. -/
theorem test_lahf :
    after (step (start [0x9F] [] vregs 0xF0D7))
        (fun t => (t.regs, t.ip, t.flags.toWord)) =
      some ({ vregs with ax := 0xD700 }, 0x0101, 0xF0D7) := by decide

/-- 95_test_vectors 2.2. -/
theorem test_sahf :
    after (step (start [0x9E] [] { vregs with ax := 0xFF00 } 0xFE02))
        (fun t => (t.regs, t.ip, t.flags.toWord)) =
      some ({ vregs with ax := 0xFF00 }, 0x0101, 0xFED7) := by decide

/-- 95_test_vectors 2.2. -/
theorem test_lea :
    after (step (start [0x8D, 0x5E, 0xFC] [] { vregs with bp := 0x0002 } 0xF002))
        (fun t => (t.regs, t.ip, t.flags.toWord)) =
      some ({ vregs with bx := 0xFFFE, bp := 0x0002 }, 0x0103, 0xF002) := by decide

/-- 95_test_vectors 2.2. -/
theorem test_lds_own_base :
    after (step (start [0xC5, 0x1F] [(0x20010, [0x34, 0x12, 0x00, 0x50])] { vregs with bx := 0x0010 } 0xF002))
        (fun t => (t.regs, t.ip, t.flags.toWord, t.segs)) =
      some ({ vregs with bx := 0x1234 }, 0x0102, 0xF002, { vsegs with ds := 0x5000 }) := by decide

/-- 95_test_vectors 2.2. -/
theorem test_les :
    after (step (start [0xC4, 0x3F] [(0x20010, [0x78, 0x56, 0x00, 0x60])] { vregs with bx := 0x0010 } 0xF002))
        (fun t => (t.regs, t.ip, t.flags.toWord, t.segs)) =
      some ({ vregs with bx := 0x0010, di := 0x5678 }, 0x0102, 0xF002, { vsegs with es := 0x6000 }) := by decide

/-- 95_test_vectors 2.2. -/
theorem test_cbw :
    after (step (start [0x98] [] { vregs with ax := 0x0080 } 0xF002))
        (fun t => (t.regs, t.ip, t.flags.toWord)) =
      some ({ vregs with ax := 0xFF80 }, 0x0101, 0xF002) := by decide

/-- 95_test_vectors 2.2. -/
theorem test_cwd :
    after (step (start [0x99] [] { vregs with ax := 0x8000, dx := 0x1234 } 0xF002))
        (fun t => (t.regs, t.ip, t.flags.toWord)) =
      some ({ vregs with ax := 0x8000, dx := 0xFFFF }, 0x0101, 0xF002) := by decide

/-- 95_test_vectors 2.2. -/
theorem test_xlatb_wraps :
    after (step (start [0xD7] [(0x20001, [0x66])] { vregs with ax := 0x0002, bx := 0xFFFF } 0xF002))
        (fun t => (t.regs, t.ip, t.flags.toWord)) =
      some ({ vregs with ax := 0x0066, bx := 0xFFFF }, 0x0101, 0xF002) := by decide

/-- 95_test_vectors 2.2. -/
theorem test_in_al :
    after (step { start [0xE4, 0x60] [] vregs 0xF002 with ioReplies := [0x001C] })
        (fun t => (t.regs, t.ip, t.flags.toWord)) =
      some ({ vregs with ax := 0x001C }, 0x0102, 0xF002) := by decide

/-- 95_test_vectors 2.2. -/
theorem test_out_dx :
    after (step (start [0xEF] [] { vregs with ax := 0x1234, dx := 0xFFFF } 0xF002))
        (fun t => (t.regs, t.ip, t.flags.toWord, t.outputs)) =
      some ({ vregs with ax := 0x1234, dx := 0xFFFF }, 0x0101, 0xF002, [.ioWrite16 0xFFFF 0x1234]) := by decide

/-- 95_test_vectors 2.3. -/
theorem test_add_overflow :
    after (step (start [0x00, 0xD8] [] { vregs with ax := 0x007F, bx := 0x0001 } 0xF002))
        (fun t => (t.regs, t.ip, t.flags.toWord)) =
      some ({ vregs with ax := 0x0080, bx := 0x0001 }, 0x0102, 0xF892) := by decide

/-- 95_test_vectors 2.3. -/
theorem test_add_sign_extended :
    after (step (start [0x83, 0xC3, 0xFF] [] { vregs with bx := 0x0001 } 0xF002))
        (fun t => (t.regs, t.ip, t.flags.toWord)) =
      some (vregs, 0x0103, 0xF057) := by decide

/-- 95_test_vectors 2.3. -/
theorem test_adc_carry :
    after (step (start [0x15, 0xFF, 0xFF] [] vregs 0xF003))
        (fun t => (t.regs, t.ip, t.flags.toWord)) =
      some (vregs, 0x0103, 0xF057) := by decide

/-- 95_test_vectors 2.3. -/
theorem test_sub_borrow :
    after (step (start [0x28, 0xD8] [] { vregs with bx := 0x0001 } 0xF002))
        (fun t => (t.regs, t.ip, t.flags.toWord)) =
      some ({ vregs with ax := 0x00FF, bx := 0x0001 }, 0x0102, 0xF097) := by decide

/-- 95_test_vectors 2.3. -/
theorem test_sbb_borrow :
    after (step (start [0x18, 0xD8] [] { vregs with bx := 0x00FF } 0xF003))
        (fun t => (t.regs, t.ip, t.flags.toWord)) =
      some ({ vregs with bx := 0x00FF }, 0x0102, 0xF057) := by decide

/-- 95_test_vectors 2.3. -/
theorem test_cmp :
    after (step (start [0x3D, 0x00, 0x80] [] { vregs with ax := 0x7FFF } 0xF002))
        (fun t => (t.regs, t.ip, t.flags.toWord)) =
      some ({ vregs with ax := 0x7FFF }, 0x0103, 0xF887) := by decide

/-- 95_test_vectors 2.3. -/
theorem test_inc_keeps_carry :
    after (step (start [0x40] [] { vregs with ax := 0xFFFF } 0xF003))
        (fun t => (t.regs, t.ip, t.flags.toWord)) =
      some (vregs, 0x0101, 0xF057) := by decide

/-- 95_test_vectors 2.3. -/
theorem test_dec_keeps_carry :
    after (step (start [0x48] [] { vregs with ax := 0x8000 } 0xF003))
        (fun t => (t.regs, t.ip, t.flags.toWord)) =
      some ({ vregs with ax := 0x7FFF }, 0x0101, 0xF817) := by decide

/-- 95_test_vectors 2.3. -/
theorem test_neg_most_negative :
    after (step (start [0xF6, 0xD8] [] { vregs with ax := 0x0080 } 0xF002))
        (fun t => (t.regs, t.ip, t.flags.toWord)) =
      some ({ vregs with ax := 0x0080 }, 0x0102, 0xF883) := by decide

/-- 95_test_vectors 2.4. -/
theorem test_mul_word :
    after (step (start [0xF7, 0xE3] [] { vregs with ax := 0xFFFF, bx := 0xFFFF } 0xF002))
        (fun t => (t.regs, t.ip, t.flags.toWord)) =
      some ({ vregs with ax := 0x0001, dx := 0xFFFE, bx := 0xFFFF }, 0x0102, 0xF803) := by decide

/-- 95_test_vectors 2.4. -/
theorem test_mul_keeps_flags :
    after (step (start [0xF6, 0xE3] [] { vregs with ax := 0x00FF, bx := 0x00FF } 0xF0D7))
        (fun t => (t.regs, t.ip, t.flags.toWord)) =
      some ({ vregs with ax := 0xFE01, bx := 0x00FF }, 0x0102, 0xF8D7) := by decide

/-- 95_test_vectors 2.4. -/
theorem test_imul_overflow :
    after (step (start [0xF6, 0xEB] [] { vregs with ax := 0x0040, bx := 0x0002 } 0xF002))
        (fun t => (t.regs, t.ip, t.flags.toWord)) =
      some ({ vregs with ax := 0x0080, bx := 0x0002 }, 0x0102, 0xF803) := by decide

/-- 95_test_vectors 2.4. -/
theorem test_imul_word :
    after (step (start [0xF7, 0xEB] [] { vregs with ax := 0x8000, bx := 0x0002 } 0xF002))
        (fun t => (t.regs, t.ip, t.flags.toWord)) =
      some ({ vregs with dx := 0xFFFF, bx := 0x0002 }, 0x0102, 0xF803) := by decide

/-- 95_test_vectors 2.4. -/
theorem test_div :
    after (step (start [0xF6, 0xF3] [] { vregs with ax := 0x0064, bx := 0x0007 } 0xF002))
        (fun t => (t.regs, t.ip, t.flags.toWord)) =
      some ({ vregs with ax := 0x020E, bx := 0x0007 }, 0x0102, 0xF002) := by decide

/-- 95_test_vectors 2.4. -/
theorem test_div_by_zero :
    after (step (start [0xF6, 0xF3] [(0x00000, [0x40, 0x00, 0x00, 0x06])] { vregs with ax := 0x0001 } 0xF302))
        (fun t => (t.regs, t.ip, t.flags.toWord, t.segs, [0x400FB, 0x400FD, 0x400FE, 0x400FF].map t.mem.read)) =
      some ({ vregs with ax := 0x0001, sp := 0x00FA }, 0x0040, 0xF002, { vsegs with cs := 0x0600 },
        [0x01, 0x10, 0x02, 0xF3]) := by decide

/-- 95_test_vectors 2.4. -/
theorem test_idiv_truncates :
    after (step (start [0xF6, 0xFB] [] { vregs with ax := 0xFFF9, bx := 0x0002 } 0xF002))
        (fun t => (t.regs, t.ip, t.flags.toWord)) =
      some ({ vregs with ax := 0xFFFD, bx := 0x0002 }, 0x0102, 0xF002) := by decide

/-- 95_test_vectors 2.4. -/
theorem test_idiv_error :
    after (step (start [0xF6, 0xFB]
        [(0x00000, [0x40, 0x00, 0x00, 0x06])]
        { vregs with ax := 0xFF7F, bx := 0x0001 } 0xF002))
        (fun t => (t.regs, t.ip, t.flags.toWord, t.segs, [0x400FB, 0x400FD, 0x400FE, 0x400FF].map t.mem.read)) =
      some ({ vregs with ax := 0xFF7F, bx := 0x0001, sp := 0x00FA }, 0x0040, 0xF002, { vsegs with cs := 0x0600 },
        [0x01, 0x10, 0x02, 0xF0]) := by decide

/-- 95_test_vectors 2.5. -/
theorem test_and_memory :
    after (step (start [0x80, 0x27, 0x0F] [(0x20010, [0xA5])] { vregs with bx := 0x0010 } 0xF002))
        (fun t => (t.regs, t.ip,
          [t.flags.CF, t.flags.PF, t.flags.ZF, t.flags.SF, t.flags.TF, t.flags.IF, t.flags.DF, t.flags.OF],
          [0x20010].map t.mem.read)) =
      some ({ vregs with bx := 0x0010 }, 0x0103, [false, true, false, false, false, false, false, false], [0x05]) := by decide

/-- 95_test_vectors 2.5. -/
theorem test_or :
    after (step (start [0x08, 0xD8] [] { vregs with ax := 0x0080, bx := 0x0001 } 0xF002))
        (fun t => (t.regs, t.ip,
          [t.flags.CF, t.flags.PF, t.flags.ZF, t.flags.SF, t.flags.TF, t.flags.IF, t.flags.DF, t.flags.OF])) =
      some ({ vregs with ax := 0x0081, bx := 0x0001 }, 0x0102,
        [false, true, false, true, false, false, false, false]) := by decide

/-- 95_test_vectors 2.5. -/
theorem test_xor :
    after (step (start [0x31, 0xC0] [] { vregs with ax := 0x1234 } 0xF8D7))
        (fun t => (t.regs, t.ip,
          [t.flags.CF, t.flags.PF, t.flags.ZF, t.flags.SF, t.flags.TF, t.flags.IF, t.flags.DF, t.flags.OF])) =
      some (vregs, 0x0102, [false, true, true, false, false, false, false, false]) := by decide

/-- 95_test_vectors 2.5. -/
theorem test_not_keeps_flags :
    after (step (start [0xF6, 0xD0] [] { vregs with ax := 0x0055 } 0xF8D7))
        (fun t => (t.regs, t.ip, t.flags.toWord)) =
      some ({ vregs with ax := 0x00AA }, 0x0102, 0xF8D7) := by decide

/-- 95_test_vectors 2.5. -/
theorem test_test :
    after (step (start [0xA9, 0x00, 0x80] [] { vregs with ax := 0x7FFF } 0xF002))
        (fun t => (t.regs, t.ip,
          [t.flags.CF, t.flags.PF, t.flags.ZF, t.flags.SF, t.flags.TF, t.flags.IF, t.flags.DF, t.flags.OF])) =
      some ({ vregs with ax := 0x7FFF }, 0x0103, [false, true, true, false, false, false, false, false]) := by decide

/-- 95_test_vectors 2.6. -/
theorem test_aaa :
    after (step (start [0x37] [] { vregs with ax := 0x0011 } 0xF012))
        (fun t => (t.regs, t.ip, [t.flags.CF, t.flags.AF, t.flags.TF, t.flags.IF, t.flags.DF])) =
      some ({ vregs with ax := 0x0107 }, 0x0101, [true, true, false, false, false]) := by decide

/-- 95_test_vectors 2.6. -/
theorem test_aas :
    after (step (start [0x3F] [] { vregs with ax := 0x0100 } 0xF012))
        (fun t => (t.regs, t.ip, [t.flags.CF, t.flags.AF, t.flags.TF, t.flags.IF, t.flags.DF])) =
      some ({ vregs with ax := 0x000A }, 0x0101, [true, true, false, false, false]) := by decide

/-- 95_test_vectors 2.6. -/
theorem test_aam :
    after (step (start [0xD4, 0x0A] [] { vregs with ax := 0xFF3F } 0xF002))
        (fun t => (t.regs, t.ip, [t.flags.PF, t.flags.ZF, t.flags.SF, t.flags.TF, t.flags.IF, t.flags.DF])) =
      some ({ vregs with ax := 0x0603 }, 0x0102, [true, false, false, false, false, false]) := by decide

/-- 95_test_vectors 2.6. -/
theorem test_aad :
    after (step (start [0xD5, 0x0A] [] { vregs with ax := 0xFFFF } 0xF002))
        (fun t => (t.regs, t.ip, [t.flags.PF, t.flags.ZF, t.flags.SF, t.flags.TF, t.flags.IF, t.flags.DF])) =
      some ({ vregs with ax := 0x00F5 }, 0x0102, [true, false, true, false, false, false]) := by decide

/-- 95_test_vectors 2.6. -/
theorem test_daa :
    after (step (start [0x27] [] { vregs with ax := 0x009A } 0xF002))
        (fun t => (t.regs, t.ip,
          [t.flags.CF, t.flags.PF, t.flags.AF, t.flags.ZF, t.flags.SF, t.flags.TF, t.flags.IF, t.flags.DF])) =
      some (vregs, 0x0101, [true, true, true, true, false, false, false, false]) := by decide

/-- 95_test_vectors 2.6. -/
theorem test_das :
    after (step (start [0x2F] [] { vregs with ax := 0x0005 } 0xF012))
        (fun t => (t.regs, t.ip,
          [t.flags.CF, t.flags.PF, t.flags.AF, t.flags.ZF, t.flags.SF, t.flags.TF, t.flags.IF, t.flags.DF])) =
      some ({ vregs with ax := 0x009F }, 0x0101, [true, true, true, false, true, false, false, false]) := by decide

/-- 95_test_vectors 2.7. -/
theorem test_rol_one :
    after (step (start [0xD0, 0xC0] [] { vregs with ax := 0x0081 } 0xF002))
        (fun t => (t.regs, t.ip, t.flags.toWord)) =
      some ({ vregs with ax := 0x0003 }, 0x0102, 0xF803) := by decide

/-- 95_test_vectors 2.7. -/
theorem test_ror_count :
    after (step (start [0xD2, 0xC8] [] { vregs with ax := 0x0005, cx := 0x0003 } 0xF002))
        (fun t => (t.regs, t.ip,
          [t.flags.CF, t.flags.PF, t.flags.AF, t.flags.ZF, t.flags.SF, t.flags.TF, t.flags.IF, t.flags.DF])) =
      some ({ vregs with ax := 0x00A0, cx := 0x0003 }, 0x0102,
        [true, false, false, false, false, false, false, false]) := by decide

/-- 95_test_vectors 2.7. -/
theorem test_rcl_full_cycle :
    after (step (start [0xD2, 0xD0] [] { vregs with ax := 0x005A, cx := 0x0009 } 0xF003))
        (fun t => (t.regs, t.ip,
          [t.flags.CF, t.flags.PF, t.flags.AF, t.flags.ZF, t.flags.SF, t.flags.TF, t.flags.IF, t.flags.DF])) =
      some ({ vregs with ax := 0x005A, cx := 0x0009 }, 0x0102,
        [true, false, false, false, false, false, false, false]) := by decide

/-- 95_test_vectors 2.7. -/
theorem test_rcr_count :
    after (step (start [0xD2, 0xD8] [] { vregs with ax := 0x0001, cx := 0x0002 } 0xF003))
        (fun t => (t.regs, t.ip,
          [t.flags.CF, t.flags.PF, t.flags.AF, t.flags.ZF, t.flags.SF, t.flags.TF, t.flags.IF, t.flags.DF])) =
      some ({ vregs with ax := 0x00C0, cx := 0x0002 }, 0x0102,
        [false, false, false, false, false, false, false, false]) := by decide

/-- 95_test_vectors 2.7. -/
theorem test_sal_count_8 :
    after (step (start [0xD2, 0xE0] [] { vregs with ax := 0x0001, cx := 0x0008 } 0xF002))
        (fun t => (t.regs, t.ip, [t.flags.CF, t.flags.PF, t.flags.ZF, t.flags.SF, t.flags.TF, t.flags.IF, t.flags.DF])) =
      some ({ vregs with cx := 0x0008 }, 0x0102, [true, true, true, false, false, false, false]) := by decide

/-- 95_test_vectors 2.7. -/
theorem test_shr_count_16 :
    after (step (start [0xD3, 0xE8] [] { vregs with ax := 0x8000, cx := 0x0010 } 0xF002))
        (fun t => (t.regs, t.ip,
          [t.flags.CF, t.flags.PF, t.flags.AF, t.flags.ZF, t.flags.SF, t.flags.TF, t.flags.IF, t.flags.DF])) =
      some ({ vregs with cx := 0x0010 }, 0x0102, [true, false, false, false, false, false, false, false]) := by decide

set_option maxRecDepth 4096 in
/-- 95_test_vectors 2.7. -/
theorem test_sar_count_200 :
    after (step (start [0xD3, 0xF8] [] { vregs with ax := 0x7FFF, cx := 0x00C8 } 0xF003))
        (fun t => (t.regs, t.ip, t.flags.toWord)) =
      some ({ vregs with cx := 0x00C8 }, 0x0102, 0xF002) := by decide

/-- 95_test_vectors 2.7. -/
theorem test_rol_count_0 :
    after (step (start [0xD2, 0xC0] [] { vregs with ax := 0x0081 } 0xF003))
        (fun t => (t.regs, t.ip,
          [t.flags.CF, t.flags.PF, t.flags.AF, t.flags.ZF, t.flags.SF, t.flags.TF, t.flags.IF, t.flags.DF])) =
      some ({ vregs with ax := 0x0081 }, 0x0102, [true, false, false, false, false, false, false, false]) := by decide

/-- 95_test_vectors 2.8. -/
theorem test_movsw_down :
    after (step (start [0xA5] [(0x20010, [0xCD, 0xAB])] { vregs with si := 0x0010, di := 0x0020 } 0xF402))
        (fun t => (t.regs, t.ip, t.flags.toWord, [0x30020, 0x30021].map t.mem.read)) =
      some ({ vregs with si := 0x000E, di := 0x001E }, 0x0101, 0xF402, [0xCD, 0xAB]) := by decide

/-- 95_test_vectors 2.8. -/
theorem test_movsb_override :
    after (step (start [0x26, 0xA4] [(0x30010, [0x77])] { vregs with si := 0x0010, di := 0x0020 } 0xF002))
        (fun t => (t.regs, t.ip, t.flags.toWord, [0x30020].map t.mem.read)) =
      some ({ vregs with si := 0x0011, di := 0x0021 }, 0x0102, 0xF002, [0x77]) := by decide

/-- 95_test_vectors 2.8. -/
theorem test_cmpsb :
    after (step (start [0xA6] [(0x20010, [0x01]), (0x30020, [0x02])] { vregs with si := 0x0010, di := 0x0020 } 0xF002))
        (fun t => (t.regs, t.ip, t.flags.toWord)) =
      some ({ vregs with si := 0x0011, di := 0x0021 }, 0x0101, 0xF097) := by decide

/-- 95_test_vectors 2.8. -/
theorem test_scasw_down :
    after (step (start [0xAF] [(0x30020, [0x01, 0x00])] { vregs with di := 0x0020 } 0xF402))
        (fun t => (t.regs, t.ip, t.flags.toWord)) =
      some ({ vregs with di := 0x001E }, 0x0101, 0xF497) := by decide

/-- 95_test_vectors 2.8. -/
theorem test_lodsw_override :
    after (step (start [0x2E, 0xAD] [(0x10200, [0x34, 0x12])] { vregs with si := 0x0200 } 0xF002))
        (fun t => (t.regs, t.ip, t.flags.toWord)) =
      some ({ vregs with ax := 0x1234, si := 0x0202 }, 0x0102, 0xF002) := by decide

/-- 95_test_vectors 2.8. -/
theorem test_stosb_ignores_override :
    after (step (start [0x36, 0xAA] [] { vregs with ax := 0x0055, di := 0x0020 } 0xF002))
        (fun t => (t.regs, t.ip, t.flags.toWord, [0x30020].map t.mem.read)) =
      some ({ vregs with ax := 0x0055, di := 0x0021 }, 0x0102, 0xF002, [0x55]) := by decide

/-- 95_test_vectors 2.8. -/
theorem test_rep_movsb :
    after (step (start [0xF3, 0xA4]
        [(0x20010, [0x01, 0x02, 0x03, 0x04])]
        { vregs with cx := 0x0003, si := 0x0010, di := 0x0020 } 0xF002))
        (fun t => (t.regs, t.ip, t.flags.toWord, [0x30020, 0x30021, 0x30022].map t.mem.read)) =
      some ({ vregs with si := 0x0013, di := 0x0023 }, 0x0102, 0xF002, [0x01, 0x02, 0x03]) := by decide

/-- 95_test_vectors 2.8. -/
theorem test_repe_cmpsb :
    after (step (start [0xF3, 0xA6]
        [(0x20010, [0x01, 0x02, 0x03, 0x04, 0x05]), (0x30020, [0x01, 0x02, 0x09, 0x04, 0x05])]
        { vregs with cx := 0x0005, si := 0x0010, di := 0x0020 } 0xF002))
        (fun t => (t.regs, t.ip, t.flags.toWord)) =
      some ({ vregs with cx := 0x0002, si := 0x0013, di := 0x0023 }, 0x0102, 0xF097) := by decide

/-- 95_test_vectors 2.8. -/
theorem test_repne_scasb :
    after (step (start [0xF2, 0xAE]
        [(0x30020, [0x41, 0x42, 0x43, 0x00, 0x44])]
        { vregs with cx := 0x0010, di := 0x0020 } 0xF002))
        (fun t => (t.regs, t.ip, t.flags.toWord)) =
      some ({ vregs with cx := 0x000C, di := 0x0024 }, 0x0102, 0xF046) := by decide

/-- 95_test_vectors 2.9. -/
theorem test_jmp_short_back :
    after (step (start [0xEB, 0xFE] [] vregs 0xF002))
        (fun t => (t.regs, t.ip, t.flags.toWord)) =
      some (vregs, 0x0100, 0xF002) := by decide

/-- 95_test_vectors 2.9. -/
theorem test_jmp_far :
    after (step (start [0xEA, 0x10, 0x00, 0x00, 0x50] [] vregs 0xF002))
        (fun t => (t.regs, t.ip, t.flags.toWord, t.segs)) =
      some (vregs, 0x0010, 0xF002, { vsegs with cs := 0x5000 }) := by decide

/-- 95_test_vectors 2.9. -/
theorem test_jmp_far_indirect :
    after (step (start [0xFF, 0x2F] [(0x20010, [0x00, 0x30, 0x00, 0x60])] { vregs with bx := 0x0010 } 0xF002))
        (fun t => (t.regs, t.ip, t.flags.toWord, t.segs)) =
      some ({ vregs with bx := 0x0010 }, 0x3000, 0xF002, { vsegs with cs := 0x6000 }) := by decide

/-- 95_test_vectors 2.9. -/
theorem test_call_near :
    after (step (start [0xE8, 0x10, 0x00] [] vregs 0xF002))
        (fun t => (t.regs, t.ip, t.flags.toWord, [0x400FE, 0x400FF].map t.mem.read)) =
      some ({ vregs with sp := 0x00FE }, 0x0113, 0xF002, [0x03, 0x01]) := by decide

/-- 95_test_vectors 2.9. -/
theorem test_call_sp :
    after (step (start [0xFF, 0xD4] [] vregs 0xF002))
        (fun t => (t.regs, t.ip, t.flags.toWord, [0x400FE, 0x400FF].map t.mem.read)) =
      some ({ vregs with sp := 0x00FE }, 0x0100, 0xF002, [0x02, 0x01]) := by decide

/-- 95_test_vectors 2.9. -/
theorem test_call_far :
    after (step (start [0x9A, 0x10, 0x00, 0x00, 0x50] [] vregs 0xF002))
        (fun t => (t.regs, t.ip, t.flags.toWord, t.segs, [0x400FC, 0x400FD, 0x400FF].map t.mem.read)) =
      some ({ vregs with sp := 0x00FC }, 0x0010, 0xF002, { vsegs with cs := 0x5000 }, [0x05, 0x01, 0x10]) := by decide

/-- 95_test_vectors 2.9. -/
theorem test_ret_near :
    after (step (start [0xC3] [(0x400FE, [0x03, 0x01])] { vregs with sp := 0x00FE } 0xF002))
        (fun t => (t.regs, t.ip, t.flags.toWord)) =
      some (vregs, 0x0103, 0xF002) := by decide

/-- 95_test_vectors 2.9. -/
theorem test_ret_far_release :
    after (step (start [0xCA, 0x02, 0x00] [(0x400FA, [0x05, 0x01, 0x00, 0x70])] { vregs with sp := 0x00FA } 0xF002))
        (fun t => (t.regs, t.ip, t.flags.toWord, t.segs)) =
      some (vregs, 0x0105, 0xF002, { vsegs with cs := 0x7000 }) := by decide

/-- 95_test_vectors 2.10. -/
theorem test_jo :
    after (step (start [0x70, 0x10] [] vregs 0xF002))
        (fun t => (t.regs, t.ip, t.flags.toWord)) =
      some (vregs, 0x0102, 0xF002) := by decide

/-- 95_test_vectors 2.10. -/
theorem test_jno :
    after (step (start [0x71, 0x10] [] vregs 0xF002))
        (fun t => (t.regs, t.ip, t.flags.toWord)) =
      some (vregs, 0x0112, 0xF002) := by decide

/-- 95_test_vectors 2.10. -/
theorem test_jb :
    after (step (start [0x72, 0x10] [] vregs 0xF003))
        (fun t => (t.regs, t.ip, t.flags.toWord)) =
      some (vregs, 0x0112, 0xF003) := by decide

/-- 95_test_vectors 2.10. -/
theorem test_jnb :
    after (step (start [0x73, 0x10] [] vregs 0xF003))
        (fun t => (t.regs, t.ip, t.flags.toWord)) =
      some (vregs, 0x0102, 0xF003) := by decide

/-- 95_test_vectors 2.10. -/
theorem test_je_back :
    after (step (start [0x74, 0xF0] [] vregs 0xF042))
        (fun t => (t.regs, t.ip, t.flags.toWord)) =
      some (vregs, 0x00F2, 0xF042) := by decide

/-- 95_test_vectors 2.10. -/
theorem test_jne :
    after (step (start [0x75, 0x10] [] vregs 0xF002))
        (fun t => (t.regs, t.ip, t.flags.toWord)) =
      some (vregs, 0x0112, 0xF002) := by decide

/-- 95_test_vectors 2.10. -/
theorem test_jbe :
    after (step (start [0x76, 0x10] [] vregs 0xF042))
        (fun t => (t.regs, t.ip, t.flags.toWord)) =
      some (vregs, 0x0112, 0xF042) := by decide

/-- 95_test_vectors 2.10. -/
theorem test_jnbe :
    after (step (start [0x77, 0x10] [] vregs 0xF042))
        (fun t => (t.regs, t.ip, t.flags.toWord)) =
      some (vregs, 0x0102, 0xF042) := by decide

/-- 95_test_vectors 2.10. -/
theorem test_js :
    after (step (start [0x78, 0x10] [] vregs 0xF082))
        (fun t => (t.regs, t.ip, t.flags.toWord)) =
      some (vregs, 0x0112, 0xF082) := by decide

/-- 95_test_vectors 2.10. -/
theorem test_jns :
    after (step (start [0x79, 0x10] [] vregs 0xF082))
        (fun t => (t.regs, t.ip, t.flags.toWord)) =
      some (vregs, 0x0102, 0xF082) := by decide

/-- 95_test_vectors 2.10. -/
theorem test_jp :
    after (step (start [0x7A, 0x10] [] vregs 0xF006))
        (fun t => (t.regs, t.ip, t.flags.toWord)) =
      some (vregs, 0x0112, 0xF006) := by decide

/-- 95_test_vectors 2.10. -/
theorem test_jnp :
    after (step (start [0x7B, 0x10] [] vregs 0xF002))
        (fun t => (t.regs, t.ip, t.flags.toWord)) =
      some (vregs, 0x0112, 0xF002) := by decide

/-- 95_test_vectors 2.10. -/
theorem test_jl :
    after (step (start [0x7C, 0x10] [] vregs 0xF802))
        (fun t => (t.regs, t.ip, t.flags.toWord)) =
      some (vregs, 0x0112, 0xF802) := by decide

/-- 95_test_vectors 2.10. -/
theorem test_jnl :
    after (step (start [0x7D, 0x10] [] vregs 0xF882))
        (fun t => (t.regs, t.ip, t.flags.toWord)) =
      some (vregs, 0x0112, 0xF882) := by decide

/-- 95_test_vectors 2.10. -/
theorem test_jle :
    after (step (start [0x7E, 0x10] [] vregs 0xF082))
        (fun t => (t.regs, t.ip, t.flags.toWord)) =
      some (vregs, 0x0112, 0xF082) := by decide

/-- 95_test_vectors 2.10. -/
theorem test_jnle :
    after (step (start [0x7F, 0x10] [] vregs 0xF042))
        (fun t => (t.regs, t.ip, t.flags.toWord)) =
      some (vregs, 0x0102, 0xF042) := by decide

/-- 95_test_vectors 2.10. -/
theorem test_jcxz :
    after (step (start [0xE3, 0x10] [] vregs 0xF002))
        (fun t => (t.regs, t.ip, t.flags.toWord)) =
      some (vregs, 0x0112, 0xF002) := by decide

/-- 95_test_vectors 2.10. -/
theorem test_loop_from_zero :
    after (step (start [0xE2, 0x10] [] vregs 0xF002))
        (fun t => (t.regs, t.ip, t.flags.toWord)) =
      some ({ vregs with cx := 0xFFFF }, 0x0112, 0xF002) := by decide

/-- 95_test_vectors 2.10. -/
theorem test_loope :
    after (step (start [0xE1, 0x10] [] { vregs with cx := 0x0002 } 0xF002))
        (fun t => (t.regs, t.ip, t.flags.toWord)) =
      some ({ vregs with cx := 0x0001 }, 0x0102, 0xF002) := by decide

/-- 95_test_vectors 2.10. -/
theorem test_loopne :
    after (step (start [0xE0, 0x10] [] { vregs with cx := 0x0002 } 0xF002))
        (fun t => (t.regs, t.ip, t.flags.toWord)) =
      some ({ vregs with cx := 0x0001 }, 0x0112, 0xF002) := by decide

/-- 95_test_vectors 2.11. -/
theorem test_int_n :
    after (step (start [0xCD, 0x21] [(0x00084, [0x60, 0x14, 0xA7, 0x02])] vregs 0xF202))
        (fun t => (t.regs, t.ip, t.flags.toWord, t.segs, [0x400FA, 0x400FB, 0x400FD, 0x400FE, 0x400FF].map t.mem.read)) =
      some ({ vregs with sp := 0x00FA }, 0x1460, 0xF002, { vsegs with cs := 0x02A7 }, [0x02, 0x01, 0x10, 0x02, 0xF2]) := by decide

/-- 95_test_vectors 2.11. -/
theorem test_int_3 :
    after (step (start [0xCC] [(0x0000C, [0x00, 0x02, 0x00, 0x07])] vregs 0xF302))
        (fun t => (t.regs, t.ip, t.flags.toWord, t.segs, [0x400FA, 0x400FB, 0x400FD, 0x400FE, 0x400FF].map t.mem.read)) =
      some ({ vregs with sp := 0x00FA }, 0x0200, 0xF002, { vsegs with cs := 0x0700 }, [0x01, 0x01, 0x10, 0x02, 0xF3]) := by decide

/-- 95_test_vectors 2.11. -/
theorem test_into :
    after (step (start [0xCE] [(0x00010, [0x00, 0x03, 0x00, 0x08])] vregs 0xFA02))
        (fun t => (t.regs, t.ip, t.flags.toWord, t.segs, [0x400FA, 0x400FB, 0x400FD, 0x400FE, 0x400FF].map t.mem.read)) =
      some ({ vregs with sp := 0x00FA }, 0x0300, 0xF802, { vsegs with cs := 0x0800 }, [0x01, 0x01, 0x10, 0x02, 0xFA]) := by decide

/-- 95_test_vectors 2.11. -/
theorem test_iret_reserved :
    after (step (start [0xCF] [(0x400FA, [0x00, 0x02, 0x00, 0x50, 0xFF, 0xFF])] { vregs with sp := 0x00FA } 0xF002))
        (fun t => (t.regs, t.ip, t.flags.toWord, t.segs)) =
      some (vregs, 0x0200, 0xFFD7, { vsegs with cs := 0x5000 }) := by decide

/-- 95_test_vectors 2.12. -/
theorem test_clc :
    after (step (start [0xF8] [] vregs 0xFED7))
        (fun t => (t.regs, t.ip, t.flags.toWord)) =
      some (vregs, 0x0101, 0xFED6) := by decide

/-- 95_test_vectors 2.12. -/
theorem test_stc :
    after (step (start [0xF9] [] vregs 0xF002))
        (fun t => (t.regs, t.ip, t.flags.toWord)) =
      some (vregs, 0x0101, 0xF003) := by decide

/-- 95_test_vectors 2.12. -/
theorem test_cmc :
    after (step (start [0xF5] [] vregs 0xF003))
        (fun t => (t.regs, t.ip, t.flags.toWord)) =
      some (vregs, 0x0101, 0xF002) := by decide

/-- 95_test_vectors 2.12. -/
theorem test_cld :
    after (step (start [0xFC] [] vregs 0xFED7))
        (fun t => (t.regs, t.ip, t.flags.toWord)) =
      some (vregs, 0x0101, 0xFAD7) := by decide

/-- 95_test_vectors 2.12. -/
theorem test_std :
    after (step (start [0xFD] [] vregs 0xF002))
        (fun t => (t.regs, t.ip, t.flags.toWord)) =
      some (vregs, 0x0101, 0xF402) := by decide

/-- 95_test_vectors 2.12. -/
theorem test_cli :
    after (step (start [0xFA] [] vregs 0xFED7))
        (fun t => (t.regs, t.ip, t.flags.toWord)) =
      some (vregs, 0x0101, 0xFCD7) := by decide

/-- 95_test_vectors 2.12. -/
theorem test_sti :
    after (step (start [0xFB] [] vregs 0xF002))
        (fun t => (t.regs, t.ip, t.flags.toWord)) =
      some (vregs, 0x0101, 0xF202) := by decide

/-- 95_test_vectors 2.12. -/
theorem test_nop :
    after (step (start [0x90] [] vregs 0xF002))
        (fun t => (t.regs, t.ip, t.flags.toWord)) =
      some (vregs, 0x0101, 0xF002) := by decide

/-- 95_test_vectors 2.12. -/
theorem test_hlt_then_interrupt :
    after (step { start [0xF4]
        [(0x00020, [0x00, 0x01, 0x00, 0x09])] vregs 0xF202 with
        inputs := [⟨false, false, some 0x08, true⟩] })
        (fun t => (t.regs, t.ip, t.flags.toWord, t.segs, t.halted)) =
      some ({ vregs with sp := 0x00FA }, 0x0100, 0xF002, { vsegs with cs := 0x0900 }, false) := by decide

/-- 95_test_vectors 2.12. -/
theorem test_wait_not_ready :
    after (step { start [0x9B] [] vregs 0xF002 with inputs := [⟨false, false, none, false⟩] })
        (fun t => (t.regs, t.ip, t.flags.toWord)) =
      some (vregs, 0x0100, 0xF002) := by decide

/-- 95_test_vectors 2.12. -/
theorem test_esc :
    after (step (start [0xDF, 0x3E, 0x34, 0x12] [] vregs 0xF002))
        (fun t => (t.regs, t.ip, t.flags.toWord, t.outputs)) =
      some (vregs, 0x0104, 0xF002, [.coprocessor 0b111111 (some 0x21234)]) := by decide

/-- 95_test_vectors 2.13. -/
theorem test_es_lock_xchg :
    after (step (start [0x26, 0xF0, 0x86, 0x07] [(0x30010, [0xFF])] { vregs with ax := 0x0001, bx := 0x0010 } 0xF002))
        (fun t => (t.regs, t.ip, t.flags.toWord, [0x30010].map t.mem.read, t.outputs)) =
      some ({ vregs with ax := 0x00FF, bx := 0x0010 }, 0x0104, 0xF002, [0x01], [.lock]) := by decide

/-- 95_test_vectors 2.13. -/
theorem test_lock_cmps_refused :
    refusal (step (start [0xF0, 0x26, 0xF3, 0xA6] [] { vregs with cx := 0x0001 } 0xF002)) = some (.lockNotAllowed) := by decide

/-- 95_test_vectors 2.13. -/
theorem test_two_segment_prefixes_refused :
    refusal (step (start [0x26, 0x2E, 0x8B, 0x07] [] vregs 0xF002)) = some (.prefixGroupRepeated) := by decide

/-- 95_test_vectors 2.2. -/
theorem test_mov_cs_refused :
    refusal (step (start [0x8E, 0xC8] [] { vregs with ax := 0x1234 } 0xF002)) = some (.unusedEncoding 0x8E 0xC8) := by decide

/-- From reset the step fetches at FFFF0h (95_test_vectors 4.6, 70_reset R371). -/
theorem test_reset_fetch :
    after (step (State.reset.withFetchWord 16 0xF400)) (fun t => (t.ip, t.halted)) = some (0x0001, true) := by decide

/-! ### Witnesses: the hypotheses of the statements can be met, clause by clause -/

theorem fullyMapped_of_params {s : State} (h : s.cfg = Config.params) : s.fullyMapped := by
  intro a ha
  simp [State.declares, h, Config.params, kindAt, Region.holds, show a < 1048576 by omega]

theorem isRam_of_params {s : State} (h : s.cfg = Config.params) {a : Nat} (ha : a < 2 ^ 20) : s.isRam a := by
  simp [State.isRam, h, Config.params, kindAt, Region.holds, show a < 1048576 by omega]

/-- The default state with given registers. -/
def w (g : Regs) : State := start [] [] g 0xF002

/-- The default state on a platform whose first 16 bytes only are declared. -/
def wSmall (g : Regs) : State :=
  { w g with cfg := { Config.params with memMap := [⟨0, 16, .ram⟩] }, segs := ⟨0, 0, 0, 0⟩ }

theorem w_fullyMapped (g : Regs) : (w g).fullyMapped := fullyMapped_of_params rfl

theorem test_witness_DecodeOfEncode :
    Instr.wf (.addRm16Imm16 (.mem (.ind16 .bp 0xFFFF)) 0xFFFF) = true ∧ Instr.wf (.esc 0x3F (.mem (.ind8 .bp 0))) = true ∧
      Instr.wf (.unused 0xD4 0x0B) = true := by decide

theorem test_witness_EncodeOfDecode :
    decode [0xC7, 0x86, 0xFF, 0xFF, 0x34, 0x12, 0x90] = .ok (.movRm16Imm16 (.mem (.ind16 .bp 0xFFFF)) 0x1234, [0x90]) := rfl

theorem test_witness_UnusedRefused :
    listedR103 0x0F 0x00 = true ∧ listedR103 0x6F 0xFF = true ∧ listedR103 0xD5 0x0B = true ∧ listedR103 0x8E 0x08 = true ∧
      listedR103 0xFF 0xD8 = true ∧ listedR103 0xFF 0x18 = false ∧
      decode [0xFE, 0x10, 0x90] = .ok (.unused 0xFE 0x10, [0x90]) := by decide

theorem test_witness_PhysicalAddresses : phys 0x0000 0x1000 = phys 0x0100 0x0000 ∧ phys 0xFFFF 0x0010 = phys 0 0 := by decide

theorem test_witness_EffectiveAddresses :
    State.reset.pfx.seg = none ∧ ({ State.reset with pfx := ⟨some .es, false, none⟩ } : State).pfx.seg = some .es ∧
      (.ind8 .bp 0x80 : MemOp) = .ind8 .bp 0x80 := ⟨rfl, rfl, rfl⟩

theorem test_witness_ByteHalves : Reg16.bx ≠ Reg8.parent .ah ∧ Reg16.sp ≠ Reg8.parent .bh := by decide

/-- At the top of a segment, and at the top of memory. -/
theorem test_witness_WordStores :
    State.reset.memOk ∧ State.reset.isRam (phys 0x4000 0xFFFF) ∧ State.reset.isRam (State.reset.highAddr 0x4000 0xFFFF) ∧
      State.reset.isRam (phys 0xFFFF 0x000F) ∧ State.reset.isRam (State.reset.highAddr 0xFFFF 0x000F) :=
  ⟨rfl, isRam_of_params rfl (by decide), isRam_of_params rfl (by decide), isRam_of_params rfl (by decide),
    isRam_of_params rfl (by decide)⟩

/-- SP 1: the word is at offsets FFFF and 0000. -/
theorem test_witness_PushThenPop :
    (w { vregs with sp := 1 }).memOk ∧ (w { vregs with sp := 1 }).isRam (phys 0x4000 (1 - 2)) ∧
      (w { vregs with sp := 1 }).isRam ((w { vregs with sp := 1 }).highAddr 0x4000 (1 - 2)) :=
  ⟨rfl, isRam_of_params rfl (by decide), isRam_of_params rfl (by decide)⟩

theorem test_witness_operands :
    (w vregs).hasRm8 (.reg .ah) ∧ (w vregs).hasRm8 (.mem (.abs 0xFFFF)) ∧ (w vregs).hasRm16 (.reg .sp) ∧
      (w vregs).hasRm16 (.mem (.ind8 .bp 0xFF)) ∧ (w vregs).hasFar (.abs 0xFFFE) ∧ (w vregs).hasByte 0xFFFF 0x0010 ∧
      (w vregs).hasWord 0xFFFF 0x000F :=
  ⟨trivial, hasRm8_of_fullyMapped (w_fullyMapped _) _, trivial, hasRm16_of_fullyMapped (w_fullyMapped _) _,
    hasFar_of_fullyMapped (w_fullyMapped _) _, hasByte_of_fullyMapped (w_fullyMapped _) _ _,
    hasWord_of_fullyMapped (w_fullyMapped _) _ _⟩

/-- The operands of AddForms, SubtractForms, LogicalForms, UnaryForms, MulProducts, ImulProducts, MovForms,
MovSegmentAndDirect, XchgForms, JumpForms: `test_witness_operands`; the sign-extended form exists. -/
theorem test_witness_AluForms :
    AluKind.rm16Imm8 .adc = some .adcRm16Imm8 ∧ (w vregs).hasRm16 (.reg .ax) ∧ (w vregs).rm8 (.reg .al) = 0 :=
  ⟨rfl, trivial, rfl⟩

/-- The largest quotient that fits, the smallest that does not, and 0. -/
theorem test_witness_DivQuotients :
    (w { vregs with ax := 0x00FF, bx := 1 }).rm8 (.reg .bl) = 1 ∧ (1 ≠ 0 ∧ 0xFF / 1 ≤ 0xFF) ∧ 0xFF < 0x100 / 1 ∧
      (w { vregs with ax := 0x0100 }).rm8 (.reg .bl) = 0 ∧ (2 ^ 16 * 1 + 0) / 2 ≤ 0xFFFF ∧ 0xFFFF < (2 ^ 16 * 2 + 0) / 2 ∧
      (w { vregs with ax := 0x0100, bx := 1 }).canEnter 0 :=
  ⟨rfl, by decide, by decide, rfl, by decide, by decide, canEnter_of_fullyMapped (w_fullyMapped _) 0⟩

/-- The quotients -128 and -129, +127 and +128, and a divisor of 0. -/
theorem test_witness_IdivQuotients :
    (0xFF80#16).toInt.tdiv 1 = -128 ∧ (0xFF7F#16).toInt.tdiv 1 < -128 ∧ (0x007F#16).toInt.tdiv 1 ≤ 127 ∧
      127 < (0x0080#16).toInt.tdiv 1 ∧ (0xFFFF#16 ++ 0x8000#16).toInt.tdiv 1 = -32768 ∧
      32767 < (0x8000#16 ++ 0x0000#16).toInt.tdiv (0xFFFF#16).toInt ∧ ((w vregs).rm8 (.reg .bl)).toInt = 0 ∧
      (w vregs).canEnter 0 :=
  ⟨by decide, by decide, by decide, by decide, by decide, by decide, rfl, canEnter_of_fullyMapped (w_fullyMapped _) 0⟩

/-- Counts 0, 1 and 255. -/
theorem test_witness_ShiftByCl :
    ((w vregs).reg8 .cl).toNat = 0 ∧ ((w { vregs with cx := 1 }).reg8 .cl).toNat = 1 ∧
      ((w { vregs with cx := 0xFFFF }).reg8 .cl).toNat = 255 ∧ (w vregs).hasRm8 (.reg .cl) := ⟨rfl, rfl, rfl, trivial⟩

/-- Low digits 9 and 10. -/
theorem test_witness_AsciiAdjust :
    ((w { vregs with ax := 0xFF09 }).flags.AF || decide (9 < ((w { vregs with ax := 0xFF09 }).reg8 .al).toNat % 16)) = false ∧
      ((w { vregs with ax := 0xFF0A }).flags.AF || decide (9 < ((w { vregs with ax := 0xFF0A }).reg8 .al).toNat % 16)) = true := by
  decide

/-- AL 99h and 9Ah for DAA, 9Fh and A0h for DAS. -/
theorem test_witness_DecimalAdjust :
    (decide (0x99 < 0x99), decide (0x99 < 0x9A)) = (false, true) ∧
      (decide (0xA0 + 6 ≤ 0x9F), decide (0xA0 + 0 ≤ 0xA0)) = (false, true) := by decide

theorem test_witness_BcdArithmetic :
    (w { vregs with ax := 0x1299 }).reg8 .al = bcd 99 ∧ (w vregs).reg8 .al = bcd 0 ∧
      (.addAlImm8 (bcd 99) : Instr) = .addAlImm8 0x99 := by decide

/-- PUSH SP, and a stack that wraps. -/
theorem test_witness_PushForms :
    (w { vregs with sp := 0 }).canPush 1 ∧ (w { vregs with sp := 1 }).canPush 3 ∧ (.reg .sp : Rm16) = .reg .sp :=
  ⟨canPush_of_fullyMapped (w_fullyMapped _) _, canPush_of_fullyMapped (w_fullyMapped _) _, rfl⟩

/-- PopForms, ReturnForms, InterruptReturn: a stack that wraps. -/
theorem test_witness_PopForms :
    (w { vregs with sp := 0xFFFF }).canPop 1 ∧ (w { vregs with sp := 0xFFFE }).canPop 2 ∧ (w { vregs with sp := 0xFFFC }).canPop 3 :=
  ⟨canPop_of_fullyMapped (w_fullyMapped _) _, canPop_of_fullyMapped (w_fullyMapped _) _,
    canPop_of_fullyMapped (w_fullyMapped _) _⟩

/-- With and without an override. -/
theorem test_witness_AddressAndPointerLoads :
    (match (w vregs).pfx.seg with | some q => (w vregs).sreg q | none => (w vregs).segs.ds) = 0x2000 ∧
      (match ({ w vregs with pfx := ⟨some .ss, false, none⟩ } : State).pfx.seg with
        | some q => (w vregs).sreg q | none => (w vregs).segs.ds) = 0x4000 ∧
      BitVec.ofNat 16 ((w { vregs with bx := 0xFFFF, ax := 0x0001 }).regs.bx.toNat + 1) = 0 ∧
      (w { vregs with bx := 0xFFFF, ax := 0x0001 }).hasByte 0x2000 0 :=
  ⟨rfl, rfl, by decide, hasByte_of_fullyMapped (w_fullyMapped _) _ _⟩

/-- The environment answers, and does not; the largest port numbers. -/
theorem test_witness_InputOutput :
    ({ w vregs with ioReplies := [0x1234] } : State).ioReplies = [0x1234] ∧ (w vregs).ioReplies = [] ∧
      (0x00FF : Word) = BitVec.ofNat 16 (0xFF : Byte).toNat ∧ (w { vregs with dx := 0xFFFF }).regs.dx = 0xFFFF :=
  ⟨rfl, rfl, by decide, rfl⟩

/-- A condition that holds and one that does not. -/
theorem test_witness_ConditionalJumps :
    jumpCondition (w vregs).flags (.jno 0x80) = some ((w vregs).flags.OF = false, 0x80) ∧ (w vregs).flags.OF = false ∧
      jumpCondition (w vregs).flags (.jle 0x7F) =
        some ((w vregs).flags.ZF = true ∨ (w vregs).flags.SF ≠ (w vregs).flags.OF, 0x7F) ∧
      ¬((w vregs).flags.ZF = true ∨ (w vregs).flags.SF ≠ (w vregs).flags.OF) :=
  ⟨rfl, rfl, rfl, by decide⟩

theorem test_witness_CompareThenJump :
    jumpCondition (w vregs).flags (.jb 0) = some ((w vregs).flags.CF = true, 0) ∧
      jumpCondition (w vregs).flags (.je 0xFF) = some ((w vregs).flags.ZF = true, 0xFF) := ⟨rfl, rfl⟩

/-- CX 0 and 1, IP at the end of the segment. -/
theorem test_witness_LoopForms :
    BitVec.ofInt 16 (((w vregs).regs.cx.toNat : Int) - 1) = 0xFFFF#16 ∧
      BitVec.ofInt 16 (((w { vregs with cx := 1 }).regs.cx.toNat : Int) - 1) = 0#16 ∧
      BitVec.ofInt 16 ((0xFFFF : Word).toNat + (0x7F : Byte).toInt) = 0x007E#16 := by decide

theorem test_witness_CallForms :
    (w vregs).canPush 1 ∧ (w vregs).canPush 2 ∧ (w vregs).hasFar (.ind .bx) :=
  ⟨canPush_of_fullyMapped (w_fullyMapped _) _, canPush_of_fullyMapped (w_fullyMapped _) _,
    hasFar_of_fullyMapped (w_fullyMapped _) _⟩

theorem test_witness_SoftwareInterrupts :
    (w vregs).canEnter 0 ∧ (w { vregs with sp := 0x0004 }).canEnter 0xFF ∧ (w vregs).flags.OF = false ∧
      (start [] [] vregs 0xF802).flags.OF = true :=
  ⟨canEnter_of_fullyMapped (w_fullyMapped _) _, canEnter_of_fullyMapped (w_fullyMapped _) _, rfl, rfl⟩

theorem test_witness_EntryThenReturn :
    (w { vregs with sp := 0x0004 }).memOk ∧ (w { vregs with sp := 0x0004 }).canEnter 0xFF ∧
      ∀ a, a ∈ (w { vregs with sp := 0x0004 }).pushAddrs 3 → (w { vregs with sp := 0x0004 }).isRam a := by
  refine ⟨rfl, canEnter_of_fullyMapped (w_fullyMapped _) _, fun a ha => isRam_of_params rfl ?_⟩
  have : (w { vregs with sp := 0x0004 }).pushAddrs 3 = [0x40002, 0x40003, 0x40000, 0x40001, 0x4FFFE, 0x4FFFF] := by decide
  rw [this] at ha
  fin_cases ha <;> decide

theorem test_witness_NopHltWaitEsc :
    (State.reset.inputs.headD Inputs.idle).ready = true ∧
      (({ State.reset with inputs := [⟨false, false, none, false⟩] } : State).inputs.headD Inputs.idle).ready = false ∧
      ({ State.reset with pause := .waiting 1 } : State).pause = .waiting 1 ∧ State.reset.halted = false :=
  ⟨rfl, rfl, rfl, rfl⟩

/-- The element at the top of both segments. -/
theorem test_witness_StringElements :
    (w { vregs with si := 0xFFFF, di := 0xFFFF }).pfx.rep = none ∧
      StrKind.hasByte .movs (w { vregs with si := 0xFFFF, di := 0xFFFF }) ∧
      StrKind.hasWord .cmps (w { vregs with si := 0xFFFF, di := 0xFFFF }) :=
  ⟨rfl, strHasByte_of_fullyMapped (w_fullyMapped _) _, strHasWord_of_fullyMapped (w_fullyMapped _) _⟩

/-- An element that runs, and one that faults. -/
theorem test_witness_RepeatUnrolls :
    StrKind.pairs .scas .repne = true ∧ ({ w vregs with pfx := ⟨none, false, some .repne⟩ } : State).pfx.rep = some .repne ∧
      (w vregs).cfg.repInterruptible = false ∧
      exec (StrKind.byteForm .lods) (w vregs) = .next ((w vregs).setReg16 .si 1) ∧
      exec (StrKind.byteForm .stos) (wSmall { vregs with di := 16 }) = .fault (.undeclaredAddress 16) :=
  ⟨rfl, rfl, rfl, rfl, rfl⟩

/-- CX 0 and CX FFFFh; a plain operation with REP, a comparing one with each prefix. -/
theorem test_witness_RepeatCompletes :
    (w vregs).fullyMapped ∧ (w { vregs with cx := 0xFFFF }).regs.cx ≠ 0 ∧ (w vregs).regs.cx = 0 ∧
      (w vregs).cfg.repInterruptible = false ∧ StrKind.pairs .stos .rep = true ∧ StrKind.pairs .cmps .repne = true ∧
      StrKind.testsZf .stos = false ∧
      ({ w vregs with cfg := { Config.params with repInterruptible := true } } : State).cfg.repInterruptible = true ∧
      ({ w vregs with cfg := { Config.params with repInterruptible := true } } : State).fullyMapped :=
  ⟨w_fullyMapped _, by decide, rfl, rfl, rfl, rfl, rfl, rfl, w_fullyMapped vregs⟩

theorem test_witness_RepeatInterruptible :
    ({ w vregs with cfg := { Config.params with repInterruptible := true } } : State).cfg.repInterruptible = true ∧
      exec .stosb ({ w vregs with cfg := { Config.params with repInterruptible := true } } : State) =
        .next { w { vregs with di := 1 } with cfg := { Config.params with repInterruptible := true } } ∧
      ({ w vregs with pause := .repeating .stosb } : State).pause = .repeating .stosb ∧ (w vregs).halted = false ∧
      ({ w vregs with inputs := [⟨false, true, none, true⟩] } : State).inputs = [⟨false, true, none, true⟩] ∧
      (w vregs).nmiBlocked = false ∧ (w vregs).canEnter 2 :=
  ⟨rfl, rfl, rfl, rfl, rfl, rfl, canEnter_of_fullyMapped (w_fullyMapped _) _⟩

theorem test_witness_PrefixRecording :
    State.reset.pfx.seg = none ∧ State.reset.pfx.lock = false ∧ State.reset.pfx.rep = none ∧
      ({ State.reset with pfx := ⟨some .ds, true, some .rep⟩ } : State).pfx = ⟨some .ds, true, some .rep⟩ := ⟨rfl, rfl, rfl, rfl⟩

/-- Both sides of the equivalence can hold and fail. -/
theorem test_witness_PrefixLegality :
    Instr.wf (.xchgRm8R8 (.mem (.ind .bx)) .al) = true ∧ Instr.isPrefix (.xchgRm8R8 (.mem (.ind .bx)) .al) = false ∧
      prefixRefusal ⟨none, true, none⟩ (.xchgRm8R8 (.mem (.ind .bx)) .al) = none ∧
      prefixRefusal ⟨none, true, none⟩ .cmpsb = some .lockNotAllowed ∧
      prefixRefusal ⟨none, false, some .rep⟩ .cmpsb = none ∧
      prefixRefusal ⟨none, false, some .repne⟩ .movsb = some .repeatNotAllowed := by decide

/-- The bytes of ADD AX, BX at 1000:0100. -/
theorem test_witness_StepRunsInstruction :
    (start [0x01, 0xD8] [] vregs 0xF002).atFetch ∧ Instr.wf (.addRm16R16 (.reg .ax) .bx) = true ∧
      Instr.isPrefix (.addRm16R16 (.reg .ax) .bx) = false ∧
      (start [0x01, 0xD8] [] vregs 0xF002).bytesAt (encode (.addRm16R16 (.reg .ax) .bx)) := by
  refine ⟨⟨rfl, rfl⟩, by decide, rfl, (bytesAt_iff_of_ahead_nil rfl _).2 fun k hk => ⟨?_, ?_⟩⟩
  · exact hasByte_of_fullyMapped (fullyMapped_of_params rfl) _ _
  · have h : k < 2 := hk
    interval_cases k <;> rfl

/-- ES:, LOCK before XCHG; two segment prefixes. -/
theorem test_witness_StepCollectsPrefixes :
    (∀ q, q ∈ [Instr.segEs, .lock] → q.isPrefix = true) ∧ ([Instr.segEs, .lock].map prefixGroup).Nodup ∧
      (start [0x26, 0xF0, 0x86, 0x07] [] vregs 0xF002).bytesAt
        ([Instr.segEs, .lock].flatMap encode ++ encode (.xchgRm8R8 (.mem (.ind .bx)) .al)) ∧
      ¬([Instr.segEs, .segCs].map prefixGroup).Nodup ∧
      (start [0x26, 0x2E] [] vregs 0xF002).bytesAt ([Instr.segEs, .segCs].flatMap encode) := by
  refine ⟨by decide, by decide, (bytesAt_iff_of_ahead_nil rfl _).2 fun k hk =>
      ⟨hasByte_of_fullyMapped (fullyMapped_of_params rfl) _ _, ?_⟩, by decide,
    (bytesAt_iff_of_ahead_nil rfl _).2 fun k hk => ⟨hasByte_of_fullyMapped (fullyMapped_of_params rfl) _ _, ?_⟩⟩
  · have h : k < 4 := hk
    interval_cases k <;> rfl
  · have h : k < 2 := hk
    interval_cases k <;> rfl

/-- With PREFETCH_DEPTH 0 a store into the next instruction is seen by its fetch (20_memory R70): MOV BYTE PTR CS:[0106h], F4h,
then the byte 90h there runs as HLT. -/
theorem test_store_into_code_is_seen :
    after (step (start [0x2E, 0xC6, 0x06, 0x06, 0x01, 0xF4, 0x90] [] vregs 0xF002)) (fun t => after (step t) (·.halted)) =
      some (some true) := by decide

/-- Bytes fetched ahead run as they were fetched: NOP is ahead, memory has HLT there (20_memory R70). -/
theorem test_ahead_is_used :
    after (step { start [0xF4] [] vregs 0xF002 with ahead := [0x90] }) (fun t => (t.ip, t.halted, t.ahead)) =
      some (0x0101, false, []) := by decide

/-- A taken jump drops what was fetched ahead, a jump that is not taken keeps it (70_reset R378). -/
theorem test_transfer_drops_ahead :
    after (exec (.jmpRel8 0) { w vregs with ahead := [0x90] }) (·.ahead) = some [] ∧
      after (exec (.je 0) { w vregs with ahead := [0x90] }) (·.ahead) = some [0x90] := by decide

/-- WAIT that is not ready is tested again, not fetched again (46_processor_control R289): the second sample is ready. -/
theorem test_wait_tests_again :
    after (step { start [0x9B, 0xF4] [] vregs 0xF002 with inputs := [⟨false, true, none, false⟩, ⟨false, false, none, true⟩] })
      (fun t => (t.ip, after (step t) (fun u => (u.ip, u.pause)))) = some (0x0100, some (0x0101, .none)) := by decide

/-- A state with IF, TF and TF at the start, and an input sample. -/
def wEvent (p : Pause) (i : Inputs) : State :=
  { start [] [] vregs 0xF302 with tfAtStart := true, pause := p, inputs := [i], nmiBlocked := false }

/-- Each clause: WAIT waits; NMI; NMI blocked and a request; no request and a trace; a repetition that goes on. -/
theorem test_witness_BoundaryOrder :
    (wEvent (.waiting 1) ⟨false, true, some 8, false⟩).pause.isWaiting = true ∧
      (wEvent .none ⟨false, true, some 8, true⟩).pause.isWaiting = false ∧ (wEvent .none ⟨false, true, some 8, true⟩).canEnter 2 ∧
      (wEvent .none ⟨false, true, some 8, true⟩).nmiBlocked = false ∧
      ({ wEvent .none ⟨false, true, some 0xFF, true⟩ with nmiBlocked := true } : State).nmiBlocked = true ∧
      (wEvent .none ⟨false, false, some 0xFF, true⟩).flags.IF = true ∧
      (wEvent .none ⟨false, false, some 0xFF, true⟩).canEnter 0xFF ∧ (wEvent .none ⟨false, false, none, true⟩).tfAtStart = true ∧
      (wEvent .none ⟨false, false, none, true⟩).flags.TF = true ∧ (wEvent .none ⟨false, false, none, true⟩).canEnter 1 ∧
      (wEvent (.repeating .movsb) ⟨false, false, none, true⟩).pause ≠ .none :=
  ⟨rfl, rfl, canEnter_of_fullyMapped (fullyMapped_of_params rfl) _, rfl, rfl, rfl,
    canEnter_of_fullyMapped (fullyMapped_of_params rfl) _, rfl, rfl, canEnter_of_fullyMapped (fullyMapped_of_params rfl) _,
    by decide⟩

/-- Each clause: NMI; NMI blocked and a request with IF; nothing requested; a request with IF clear. -/
theorem test_witness_HaltedStep :
    ({ wEvent .none ⟨false, true, some 8, true⟩ with halted := true } : State).halted = true ∧
      (wEvent .none ⟨false, true, some 8, true⟩).pause = .none ∧ (wEvent .none ⟨false, true, some 8, true⟩).pfx = Prefixes.none ∧
      (wEvent .none ⟨false, true, some 8, true⟩).canEnter 2 ∧ (wEvent .none ⟨false, false, some 8, true⟩).flags.IF = true ∧
      (wEvent .none ⟨false, false, some 8, true⟩).canEnter 8 ∧
      ((wEvent .none ⟨false, false, none, true⟩).inputs.headD Inputs.idle).intr = none ∧
      ({ w vregs with halted := true, inputs := [⟨false, false, some 8, true⟩] } : State).flags.IF = false ∧
      step { w vregs with halted := true, inputs := [⟨false, false, some 8, true⟩] } =
        .next { w vregs with halted := true, inputs := [] } :=
  ⟨rfl, rfl, rfl, canEnter_of_fullyMapped (fullyMapped_of_params rfl) _, rfl,
    canEnter_of_fullyMapped (fullyMapped_of_params rfl) _, rfl, rfl, rfl⟩

theorem test_witness_ResetEvent :
    ({ wEvent .none ⟨true, true, some 8, false⟩ with halted := true } : State).inputs = ⟨true, true, some 8, false⟩ :: [] ∧
      ({ wEvent .none ⟨true, true, some 8, false⟩ with halted := true } : State).halted = true := ⟨rfl, rfl⟩

/-- A next state; the fault; both refusals. -/
theorem test_witness_EveryInstructionCompletes :
    (w vregs).fullyMapped ∧ Instr.isPrefix (.divRm16 (.reg .ax)) = false ∧
      exec (.movAlM8 16) (wSmall vregs) = .fault (.undeclaredAddress 16) ∧
      exec (.unused 0x0F 0x00) (w vregs) = .refused (.unusedEncoding 0x0F 0x00) ∧
      exec .rep { w vregs with pfx := ⟨none, false, some .rep⟩ } = .refused .prefixGroupRepeated :=
  ⟨w_fullyMapped _, rfl, rfl, rfl, rfl⟩

/-- The first 16 bytes only are declared: a byte at 16, a word at 15 of which one byte is there, a stack whose word wraps onto
the end of its segment, the vector 4, a string element, the first byte of an instruction. -/
theorem test_witness_undeclared :
    ¬(wSmall vregs).hasRm8 (.mem (.abs 16)) ∧ (wSmall vregs).hasRm8 (.mem (.abs 15)) ∧
      ¬(wSmall vregs).hasRm16 (.mem (.abs 15)) ∧ ¬(wSmall { vregs with sp := 1 }).canPush 1 ∧
      ¬(wSmall { vregs with sp := 15 }).canPop 1 ∧ ¬(wSmall { vregs with sp := 8 }).canEnter 4 ∧
      ¬StrKind.hasByte .lods (wSmall { vregs with si := 16 }) ∧ ¬StrKind.hasWord .stos (wSmall { vregs with di := 15 }) ∧
      (wSmall vregs).pfx.rep = none ∧ (wSmall vregs).atFetch ∧ (wSmall vregs).ahead = [] ∧
      (wSmall vregs).declares (phys (wSmall vregs).segs.cs (wSmall vregs).ip) = false := by
  refine ⟨fun h => ?_, rfl, fun h => ?_, fun h => ?_, fun h => ?_, fun h => ?_, fun h => ?_, fun h => ?_, rfl, ⟨rfl, rfl⟩, rfl,
    rfl⟩
  · exact Bool.noConfusion (show false = true from h)
  · exact Bool.noConfusion (show false = true from h.2)
  · exact Bool.noConfusion (show false = true from (h 0 (by decide)).1)
  · exact Bool.noConfusion (show false = true from (h 0 (by decide)).2)
  · exact Bool.noConfusion (show false = true from h.2 0 (by decide))
  · exact Bool.noConfusion (show false = true from h.1 rfl)
  · exact Bool.noConfusion (show false = true from (h.2 rfl).2)

/-- PUSH AX runs in a good state; an address that is not RAM. -/
theorem test_witness_StepKeepsGoodState :
    (start [0x50] [] vregs 0xF002).memOk ∧ (start [0x50] [] vregs 0xF002).ahead.length ≤ 0 ∧ (∃ t, step (start [0x50] [] vregs 0xF002) = .next t) ∧
      ¬(start [0x50] [] vregs 0xF002).isRam (2 ^ 20) :=
  ⟨rfl, by decide, ⟨_, rfl⟩, by show ¬kindAt Config.params.memMap (2 ^ 20) = some .ram; decide⟩

/-- RegisterFrame, FlagFrame, MemoryFrame, ControlStateFrame: ADD [BX], AL runs; BX, DS, TF and address 0 are outside it. -/
theorem test_witness_frames :
    (w vregs).memOk ∧ (∃ t, exec (.addRm8R8 (.mem (.ind .bx)) .al) (w vregs) = .next t) ∧
      Reg16.bx ∉ Instr.regsWritten (.addRm8R8 (.mem (.ind .bx)) .al) ∧
      SReg.ds ∉ Instr.segsWritten (.addRm8R8 (.mem (.ind .bx)) .al) ∧
      Flag.TF ∉ Instr.flagsWritten (.addRm8R8 (.mem (.ind .bx)) .al) ∧
      0 ∉ (w vregs).stores (.addRm8R8 (.mem (.ind .bx)) .al) :=
  ⟨rfl, ⟨_, rfl⟩, by decide, by decide, by decide, by decide⟩

end Sys2Proof.Tests
end

section
/-! SUPPORT. The byte halves of the word registers (10_state R11) and FLAGS as a word (R18, R19): one rule per operation, then the
statements about them and about the state right after reset (R37). -/

namespace Sys2Proof.Machine

/-! ### The halves of a word -/

@[simp] theorem loByte_wordOf (lo hi : Byte) : loByte (wordOf lo hi) = lo := BitVec.extractLsb'_append_eq_right

@[simp] theorem hiByte_wordOf (lo hi : Byte) : hiByte (wordOf lo hi) = hi := BitVec.extractLsb'_append_eq_left

@[simp] theorem wordOf_loByte_hiByte (w : Word) : wordOf (loByte w) (hiByte w) = w :=
  BitVec.extractLsb'_append_extractLsb' (w := 8)

/-! ### Byte registers -/

/-- A byte register is told by its word register and its half. -/
theorem Reg8.eq_iff (q r : Reg8) : q = r ↔ q.parent = r.parent ∧ q.isHigh = r.isHigh := by
  cases q <;> cases r <;> decide

/-- The word register after a write of one of its halves keeps the other half. -/
theorem State.reg16_setReg8_parent (s : State) (r : Reg8) (v : Byte) :
    (s.setReg8 r v).reg16 r.parent =
      if r.isHigh then wordOf (loByte (s.reg16 r.parent)) v else wordOf v (hiByte (s.reg16 r.parent)) := by
  simp [State.setReg8]

/-- A write of a byte register changes that byte register alone. -/
theorem State.reg8_setReg8 (s : State) (r q : Reg8) (v : Byte) :
    (s.setReg8 r v).reg8 q = if q = r then v else s.reg8 q := by
  by_cases hp : q.parent = r.parent
  · rw [State.reg8, State.reg8, hp, State.reg16_setReg8_parent]
    simp only [Reg8.eq_iff, hp, true_and]
    cases q.isHigh <;> cases r.isHigh <;> simp
  · have hne : q ≠ r := fun h => hp (h ▸ rfl)
    rw [State.reg8, State.reg8, State.reg16_setReg8_of_ne s r _ v hp, if_neg hne]

/-- Settles O7, from what a byte write does to its word register and to the others. -/
theorem byteHalves : Obligations.ByteHalves := by
  refine ⟨fun s => ?_, State.reg8_setReg8, State.reg16_setReg8_of_ne, fun s r v => by simp [State.reg8]⟩
  exact ⟨(wordOf_loByte_hiByte _).symm, (wordOf_loByte_hiByte _).symm, (wordOf_loByte_hiByte _).symm,
    (wordOf_loByte_hiByte _).symm⟩

/-! ### FLAGS -/

/-- FLAGS bit by bit, from bit 0 up: the figure of R18 with the hard-wired bits of R19. -/
def Flags.bits (f : Flags) : List Bool :=
  [f.CF, true, f.PF, false, f.AF, false, f.ZF, f.SF, f.TF, f.IF, f.DF, f.OF, true, true, true, true]

theorem Flags.toWord_getLsbD (f : Flags) (k : Nat) : f.toWord.getLsbD k = f.bits.getD k false := by
  by_cases hk : k < 16
  · unfold Flags.toWord Flags.bits
    change BitVec.getLsbD (w := 4 + 1 + 1 + 1 + 1 + 1 + 1 + 1 + 1 + 1 + 1 + 1 + 1) _ k = _
    simp only [BitVec.getLsbD_append, BitVec.getLsbD_ofBool]
    interval_cases k <;> simp
  · rw [BitVec.getLsbD_of_ge _ _ (by omega), List.getD_eq_default _ _ (by simp [Flags.bits]; omega)]

/-- Reading FLAGS and loading it back changes nothing. -/
@[simp] theorem Flags.ofWord_toWord (f : Flags) : Flags.ofWord f.toWord = f := by
  simp only [Flags.ofWord, Flags.toWord_getLsbD]
  rfl

/-- The hard-wired bits (R19). -/
theorem Flags.toWord_and_reserved (f : Flags) : f.toWord &&& 0xF02A = 0xF002 := by
  refine BitVec.eq_of_getLsbD_eq fun k hk => ?_
  rw [BitVec.getLsbD_and, Flags.toWord_getLsbD]
  interval_cases k <;> simp [Flags.bits]

/-- A word loaded into FLAGS and read back: the nine flags are the word's bits, the others are hard-wired (R19). -/
theorem Flags.toWord_ofWord (w : Word) : (Flags.ofWord w).toWord = (w &&& 0x0FD5) ||| 0xF002 := by
  refine BitVec.eq_of_getLsbD_eq fun k hk => ?_
  rw [BitVec.getLsbD_or, BitVec.getLsbD_and, Flags.toWord_getLsbD]
  interval_cases k <;> simp [Flags.bits, Flags.ofWord]

/-- Settles O9, bit by bit. -/
theorem flagsWord : Obligations.FlagsWord := by
  refine ⟨fun f => ?_, Flags.toWord_ofWord⟩
  simp only [Flags.toWord_getLsbD, Flags.toWord_and_reserved, Flags.ofWord_toWord]
  exact ⟨rfl, rfl, rfl, rfl, rfl, rfl, rfl, rfl, rfl, trivial, trivial⟩

/-! ### Right after reset -/

/-- Settles O54: every field is read off `State.reset`. -/
theorem resetState : Obligations.ResetState :=
  ⟨rfl, rfl, rfl, rfl, rfl, rfl, rfl, rfl, rfl, ⟨rfl, rfl⟩, rfl, rfl, rfl⟩

end Sys2Proof.Machine
end

section
/-! SUPPORT. What an instruction leaves unchanged (10_state R13, R15, R29 to R36): the frame as a relation between states,
one rule per state operation, one per shape of meaning, then one theorem over all instructions. -/

namespace Sys2Proof.Machine

variable {i : Instr} {s t u : State}

/-- All that instruction `i`, started in `s`, keeps in `t`: what lies outside its lists of registers and flags, and the state that
only a few instructions touch. -/
structure Frame (i : Instr) (s t : State) : Prop where
  reg16 : ∀ r, r ∉ i.regsWritten → t.reg16 r = s.reg16 r
  sreg : ∀ q, q ∉ i.segsWritten → t.sreg q = s.sreg q
  flag : ∀ f, f ∉ i.flagsWritten → t.flags.get f = s.flags.get f
  trapFlag : t.flags.TF = true → s.flags.TF = true ∨ i = .popf ∨ i = .iret
  intFlag : t.flags.IF = true → s.flags.IF = true ∨ i = .sti ∨ i = .popf ∨ i = .iret
  nmiBlocked : i ≠ .iret → t.nmiBlocked = s.nmiBlocked
  halted : t.halted = true → s.halted = true ∨ i = .hlt
  pfx : i.isPrefix = false → t.pfx = s.pfx
  ioReplies : takesAnswer i = false → t.ioReplies = s.ioReplies
  outputs : ∃ es, t.outputs = es ++ s.outputs ∧ (putsEvent i = false → es = [])
  ahead : t.ahead = s.ahead ∨ t.ahead = [] ∧ mayTransfer i = true
  instrStart : t.instrStart = s.instrStart
  tfAtStart : t.tfAtStart = s.tfAtStart
  cfg : t.cfg = s.cfg
  inputs : t.inputs = s.inputs

/-! ### One rule per state operation -/

theorem Frame.refl (i : Instr) (s : State) : Frame i s s where
  reg16 _ _ := rfl
  sreg _ _ := rfl
  flag _ _ := rfl
  trapFlag := .inl
  intFlag := .inl
  nmiBlocked _ := rfl
  halted := .inl
  pfx _ := rfl
  ioReplies _ := rfl
  outputs := ⟨[], rfl, fun _ => rfl⟩
  ahead := .inl rfl
  instrStart := rfl
  tfAtStart := rfl
  cfg := rfl
  inputs := rfl

theorem Frame.setReg16 (hf : Frame i s t) {r : Reg16} (hr : r ∈ i.regsWritten) (v : Word) : Frame i s (t.setReg16 r v) :=
  { hf with
    reg16 := fun q hq => by
      have hne : q ≠ r := fun e => hq (e ▸ hr)
      simpa [hne] using hf.reg16 q hq }

theorem Frame.setReg8 (hf : Frame i s t) {r : Reg8} (hr : r.parent ∈ i.regsWritten) (v : Byte) : Frame i s (t.setReg8 r v) :=
  hf.setReg16 hr _

theorem Frame.setSreg (hf : Frame i s t) {q : SReg} (hq : q ∈ i.segsWritten) (v : Word) : Frame i s (t.setSreg q v) :=
  { hf with
    sreg := fun p hp => by
      have hne : p ≠ q := fun e => hp (e ▸ hq)
      simpa [hne] using hf.sreg p hp }

/-- Flags are written inside a list `F` of the instruction's flags that names neither TF nor IF. -/
theorem Frame.setFlags (hf : Frame i s t) {F : List Flag} (hF : F ⊆ i.flagsWritten) (hc : Flag.TF ∉ F ∧ Flag.IF ∉ F)
    {g : Flags} (hg : ∀ f, f ∉ F → g.get f = t.flags.get f) : Frame i s (t.setFlags g) :=
  { hf with
    flag := fun f hn => (hg f fun h => hn (hF h)).trans (hf.flag f hn)
    trapFlag := fun h => hf.trapFlag ((hg .TF hc.1).symm.trans h)
    intFlag := fun h => hf.intFlag ((hg .IF hc.2).symm.trans h) }

/-- IF and TF may be cleared by an instruction that lists them. -/
theorem Frame.clearFlags (hf : Frame i s t) {g : Flags} (hg : ∀ f, f ∉ i.flagsWritten → g.get f = t.flags.get f)
    (hT : g.TF = true → t.flags.TF = true) (hI : g.IF = true → t.flags.IF = true) : Frame i s (t.setFlags g) :=
  { hf with
    flag := fun f hn => (hg f hn).trans (hf.flag f hn)
    trapFlag := fun h => hf.trapFlag (hT h)
    intFlag := fun h => hf.intFlag (hI h) }

theorem Frame.drew (hf : Frame i s t) (n : Nat) : Frame i s (t.drew n) := { hf with }

theorem Frame.setPause (hf : Frame i s t) (p : Pause) : Frame i s { t with pause := p } := { hf with }

theorem Frame.leaveHalt (hf : Frame i s t) : Frame i s { t with halted := false } :=
  { hf with halted := fun h => absurd h Bool.false_ne_true }

theorem Frame.transfer (hf : Frame i s t) (hi : mayTransfer i = true) (v : Word) : Frame i s (t.transfer v) :=
  { hf with ahead := .inr ⟨rfl, hi⟩ }

theorem Frame.emit (hf : Frame i s t) (hi : putsEvent i = true) (e : BusEvent) : Frame i s (t.emit e) :=
  { hf with
    outputs := by
      obtain ⟨es, he, -⟩ := hf.outputs
      exact ⟨e :: es, by simp [he], fun h => absurd (hi.symm.trans h) (by decide)⟩ }

theorem Frame.setPfx (hf : Frame i s t) (hi : i.isPrefix = true) (p : Prefixes) : Frame i s { t with pfx := p } :=
  { hf with pfx := fun h => absurd (hi.symm.trans h) (by decide) }

theorem Frame.takeReply (hf : Frame i s t) (hi : takesAnswer i = true) : Frame i s t.takeReply.2 := by
  have hn : takesAnswer i ≠ false := by simp [hi]
  obtain ⟨v, ws, -, h⟩ | ⟨-, h⟩ := takeReply_cases t
  · rw [h]
    exact { hf with ioReplies := fun h => absurd h hn }
  · rw [h]
    exact { hf with }

theorem Frame.put8 (hf : Frame i s t) (a : Nat) (b : Byte) : Frame i s (t.put8 a b) := by
  unfold State.put8
  split
  · exact { hf with }
  · exact hf

theorem Frame.storeByte (hf : Frame i s t) (g o : Word) (v : Byte) : Frame i s (t.storeByte g o v) := hf.put8 _ _

theorem Frame.storeWord (hf : Frame i s t) (g o v : Word) : Frame i s (t.storeWord g o v) := (hf.put8 _ _).put8 _ _

/-! ### Operands, the stack, the ports, the entry of an interrupt -/

theorem Frame.writeRm8 (hf : Frame i s u) {d : Rm8} (hd : d.regs ⊆ i.regsWritten) {v : Byte} (h : u.writeRm8 d v = .ok t) :
    Frame i s t := by
  obtain ⟨-, rfl⟩ := writeRm8_eq_ok.1 h
  cases d with
  | reg r => exact hf.setReg8 (hd List.mem_cons_self) v
  | mem m => exact hf.storeByte _ _ v

theorem Frame.writeRm16 (hf : Frame i s u) {d : Rm16} (hd : d.regs ⊆ i.regsWritten) {v : Word} (h : u.writeRm16 d v = .ok t) :
    Frame i s t := by
  obtain ⟨-, rfl⟩ := writeRm16_eq_ok.1 h
  cases d with
  | reg r => exact hf.setReg16 (hd List.mem_cons_self) v
  | mem m => exact hf.storeWord _ _ v

theorem Frame.push16 (hf : Frame i s u) (hi : .sp ∈ i.regsWritten) {v : Word} (h : u.push16 v = .ok t) : Frame i s t := by
  obtain ⟨-, rfl⟩ := push16_eq_ok.1 h
  exact (hf.setReg16 hi _).storeWord _ _ v

theorem Frame.pop16 (hf : Frame i s u) (hi : .sp ∈ i.regsWritten) {p : Word × State} (h : u.pop16 = .ok p) :
    Frame i s p.2 := by
  obtain ⟨-, rfl⟩ := pop16_eq_ok.1 h
  exact hf.setReg16 hi _

/-- The instruction may enter a handler: what the entry of R330 writes is in its lists. -/
structure MayEnter (i : Instr) : Prop where
  sp : .sp ∈ i.regsWritten
  cs : .cs ∈ i.segsWritten
  flags : [Flag.IF, Flag.TF] ⊆ i.flagsWritten
  transfers : mayTransfer i = true

theorem Frame.interrupt (hf : Frame i s u) (hi : MayEnter i) {n : Byte} {c o : Word} (h : u.interrupt n c o = .ok t) :
    Frame i s t := by
  obtain ⟨a, ha, h⟩ := bind_eq_ok.1 h
  obtain ⟨b, hb, h⟩ := bind_eq_ok.1 h
  obtain ⟨w, hw, h⟩ := bind_eq_ok.1 h
  obtain ⟨v, -, h⟩ := bind_eq_ok.1 h
  cases h
  have hp : Frame i s w := ((hf.push16 hi.sp ha).push16 hi.sp hb).push16 hi.sp hw
  refine (((hp.clearFlags (fun f hn => ?_) ?_ ?_).transfer hi.transfers _).setSreg hi.cs _).leaveHalt
  · cases f with
    | IF => exact absurd (hi.flags (by simp)) hn
    | TF => exact absurd (hi.flags (by simp)) hn
    | _ => rfl
  · simp
  · simp

/-! ### Flag computations write status flags only -/

/-- Two flag sets with the same control flags agree outside the status flags. -/
theorem Flags.get_eq_of_control {f g : Flags} (hT : g.TF = f.TF) (hI : g.IF = f.IF) (hD : g.DF = f.DF) :
    ∀ x, x ∉ Flag.status → g.get x = f.get x := by
  intro x hx
  cases x with
  | TF => exact hT
  | IF => exact hI
  | DF => exact hD
  | _ => simp [Flag.status] at hx

theorem Frame.setStatus (hf : Frame i s t) (hi : Flag.status ⊆ i.flagsWritten) {g : Flags} (hT : g.TF = t.flags.TF)
    (hI : g.IF = t.flags.IF) (hD : g.DF = t.flags.DF) : Frame i s (t.setFlags g) :=
  hf.setFlags hi (by decide) (Flags.get_eq_of_control hT hI hD)

/-- CF and OF are written, as the shifts and the products do. -/
theorem Frame.setCarryOverflow (hf : Frame i s t) (hi : [Flag.OF, Flag.CF] ⊆ i.flagsWritten) (c o : Bool) :
    Frame i s (t.setFlags { t.flags with CF := c, OF := o }) := by
  refine hf.setFlags hi (by decide) fun x hx => ?_
  cases x with
  | OF | CF => simp at hx
  | _ => rfl

theorem Frame.setCarry (hf : Frame i s t) (hi : [Flag.CF] ⊆ i.flagsWritten) (c : Bool) :
    Frame i s (t.setFlags { t.flags with CF := c }) := by
  refine hf.setFlags hi (by decide) fun x hx => ?_
  cases x with
  | CF => simp at hx
  | _ => rfl

theorem Frame.setDirection (hf : Frame i s t) (hi : [Flag.DF] ⊆ i.flagsWritten) (b : Bool) :
    Frame i s (t.setFlags { t.flags with DF := b }) := by
  refine hf.setFlags hi (by decide) fun x hx => ?_
  cases x with
  | DF => simp at hx
  | _ => rfl

section Operations

variable {n : Nat}

/-- ADD, ADC, SUB, SBB, CMP, NEG: the flags are those of `AddFlags` or `SubFlags`, which write the six status flags (R27). -/
theorem setStatus_frame (hi : Flag.status ⊆ i.flagsWritten) {g : Flags} (hT : g.TF = s.flags.TF) (hI : g.IF = s.flags.IF)
    (hD : g.DF = s.flags.DF) : Frame i s (s.setFlags g) := (Frame.refl i s).setStatus hi hT hI hD

theorem logicOp_frame (hi : Flag.status ⊆ i.flagsWritten) {r : BitVec n} : Frame i s (logicOp s r).2 := by
  refine Frame.drew ?_ _
  exact (Frame.refl i s).setStatus hi rfl rfl rfl

theorem notOp_frame {a : BitVec n} : Frame i s (notOp s a).2 := Frame.refl i s

/-- INC and DEC: the flags of a sum or difference, with CF as it was (R166, R167). -/
theorem setStatusKeepCarry_frame (hi : [Flag.OF, .SF, .ZF, .AF, .PF] ⊆ i.flagsWritten) {g : Flags}
    (hT : g.TF = s.flags.TF) (hI : g.IF = s.flags.IF) (hD : g.DF = s.flags.DF) :
    Frame i s (s.setFlags { g with CF := s.flags.CF }) := by
  refine (Frame.refl i s).setFlags hi (by decide) fun x hx => ?_
  cases x with
  | CF => rfl
  | TF => exact hT
  | IF => exact hI
  | DF => exact hD
  | _ => simp at hx

theorem shiftOne_frame (hi : [Flag.OF, .CF] ⊆ i.flagsWritten) {r : BitVec n × Bool} {o : Bool} :
    Frame i s (s.shiftOne r o).2 := (Frame.refl i s).setCarryOverflow hi _ _

theorem shiftMany_frame (hi : [Flag.OF, .CF] ⊆ i.flagsWritten) {r : BitVec n × Bool} : Frame i s (s.shiftMany r).2 :=
  ((Frame.refl i s).setCarryOverflow hi _ _).drew 1

theorem sarCl_frame (hi : [Flag.OF, .CF] ⊆ i.flagsWritten) {x : BitVec n} : Frame i s (sarCl s x).2 := by
  unfold sarCl
  split
  · exact shiftMany_frame hi
  · exact shiftOne_frame hi

theorem salOne_frame (hi : Flag.status ⊆ i.flagsWritten) {x : BitVec n} : Frame i s (salOne s x).2 := by
  refine Frame.drew ?_ _
  exact (Frame.refl i s).setStatus hi rfl rfl rfl

theorem salCl_frame (hi : Flag.status ⊆ i.flagsWritten) {x : BitVec n} : Frame i s (salCl s x).2 := by
  unfold salCl
  split
  · exact shiftMany_frame (fun f hf => hi (by revert f; decide))
  · refine Frame.drew ?_ _
    exact (Frame.refl i s).setStatus hi rfl rfl rfl

end Operations

/-! ### The shapes of Machine/Alu.lean -/

/-- A meaning that reads something, then changes the state by `f`. -/
theorem read_then_frame {α : Type} {x : Res α} {f : α → State} (h : finish (x >>= fun a => pure (f a)) = .next t)
    (hf : ∀ a, Frame i s (f a)) : Frame i s t := by
  obtain ⟨a, -, h⟩ := bind_eq_ok.1 (finish_eq_next.1 h)
  cases h
  exact hf a

theorem map_read_frame {α : Type} {x : Res α} {f : α → State} (h : finish (f <$> x) = .next t)
    (hf : ∀ a, Frame i s (f a)) : Frame i s t := by
  obtain ⟨a, -, rfl⟩ := map_eq_ok.1 (finish_eq_next.1 h)
  exact hf a

theorem updRm8_frame {op : Alu 8} {d : Rm8} {b : Byte} (h : updRm8 op d b s = .next t) (hop : ∀ a, Frame i s (op s a b).2)
    (hd : d.regs ⊆ i.regsWritten) : Frame i s t := by
  obtain ⟨a, -, h⟩ := bind_eq_ok.1 (finish_eq_next.1 h)
  exact (hop a).writeRm8 hd h

theorem updRm16_frame {op : Alu 16} {d : Rm16} {b : Word} (h : updRm16 op d b s = .next t) (hop : ∀ a, Frame i s (op s a
    b).2) (hd : d.regs ⊆ i.regsWritten): Frame i s t := by
  obtain ⟨a, -, h⟩ := bind_eq_ok.1 (finish_eq_next.1 h)
  exact (hop a).writeRm16 hd h

theorem updR8_frame {op : Alu 8} {r : Reg8} {m : Rm8} (h : updR8 op r m s = .next t) (hop : ∀ b, Frame i s (op s (s.reg8 r)
    b).2) (hr : r.parent ∈ i.regsWritten): Frame i s t :=
  read_then_frame h fun b => (hop b).setReg8 hr _

theorem updR16_frame {op : Alu 16} {r : Reg16} {m : Rm16} (h : updR16 op r m s = .next t) (hop : ∀ b, Frame i s (op s
    (s.reg16 r) b).2) (hr : r ∈ i.regsWritten): Frame i s t :=
  read_then_frame h fun b => (hop b).setReg16 hr _

theorem cmpRm8_frame {op : Alu 8} {d : Rm8} {b : Byte} (h : cmpRm8 op d b s = .next t) (hop : ∀ a, Frame i s (op s a b).2) :
    Frame i s t := read_then_frame h hop

theorem cmpRm16_frame {op : Alu 16} {d : Rm16} {b : Word} (h : cmpRm16 op d b s = .next t) (hop : ∀ a, Frame i s (op s a
    b).2) : Frame i s t := read_then_frame h hop

theorem cmpR8_frame {op : Alu 8} {r : Reg8} {m : Rm8} (h : cmpR8 op r m s = .next t) (hop : ∀ b, Frame i s (op s (s.reg8 r)
    b).2) : Frame i s t := read_then_frame h hop

theorem cmpR16_frame {op : Alu 16} {r : Reg16} {m : Rm16} (h : cmpR16 op r m s = .next t) (hop : ∀ b, Frame i s (op s
    (s.reg16 r) b).2) : Frame i s t := read_then_frame h hop

theorem unRm8_frame {f : Una 8} {d : Rm8} (h : unRm8 f d s = .next t) (hop : ∀ a, Frame i s (f s a).2) (hd : d.regs ⊆
    i.regsWritten) : Frame i s t := by
  obtain ⟨a, -, h⟩ := bind_eq_ok.1 (finish_eq_next.1 h)
  exact (hop a).writeRm8 hd h

theorem unRm16_frame {f : Una 16} {d : Rm16} (h : unRm16 f d s = .next t) (hop : ∀ a, Frame i s (f s a).2) (hd : d.regs ⊆
    i.regsWritten) : Frame i s t := by
  obtain ⟨a, -, h⟩ := bind_eq_ok.1 (finish_eq_next.1 h)
  exact (hop a).writeRm16 hd h

/-! ### The shapes of Machine/DataTransfer.lean -/

theorem pushRm16_frame {m : Rm16} (hi : .sp ∈ i.regsWritten) (h : pushRm16 m s = .next t) : Frame i s t := by
  obtain ⟨v, -, h⟩ := bind_eq_ok.1 (finish_eq_next.1 h)
  exact (Frame.refl i s).push16 hi h

theorem pushWord_frame {v : Word} (hi : .sp ∈ i.regsWritten) (h : finish (s.push16 v) = .next t) : Frame i s t :=
  (Frame.refl i s).push16 hi (finish_eq_next.1 h)

theorem popSreg_frame {q : SReg} (hi : .sp ∈ i.regsWritten) (hq : q ∈ i.segsWritten) (h : popSreg q s = .next t) :
    Frame i s t := by
  obtain ⟨p, hp, h⟩ := bind_eq_ok.1 (finish_eq_next.1 h)
  cases h
  exact ((Frame.refl i s).pop16 hi hp).setSreg hq _

theorem popRm16_frame {d : Rm16} (hi : .sp :: d.regs ⊆ i.regsWritten) (h : popRm16 d s = .next t) : Frame i s t := by
  obtain ⟨p, hp, h⟩ := bind_eq_ok.1 (finish_eq_next.1 h)
  exact ((Frame.refl i s).pop16 (hi List.mem_cons_self) hp).writeRm16 (fun _ hr => hi (List.mem_cons_of_mem _ hr)) h

theorem execXchgRm8R8_frame {m : Rm8} {r : Reg8} (h : execXchgRm8R8 m r s = .next t) : Frame (.xchgRm8R8 m r) s t := by
  obtain ⟨v, -, h⟩ := bind_eq_ok.1 (finish_eq_next.1 h)
  obtain ⟨u, hu, h⟩ := bind_eq_ok.1 h
  cases h
  exact ((Frame.refl (.xchgRm8R8 m r) s).writeRm8 (fun _ hr => List.mem_cons_of_mem _ hr) hu).setReg8 List.mem_cons_self v

theorem execXchgRm16R16_frame {m : Rm16} {r : Reg16} (h : execXchgRm16R16 m r s = .next t) :
    Frame (.xchgRm16R16 m r) s t := by
  obtain ⟨v, -, h⟩ := bind_eq_ok.1 (finish_eq_next.1 h)
  obtain ⟨u, hu, h⟩ := bind_eq_ok.1 h
  cases h
  exact ((Frame.refl (.xchgRm16R16 m r) s).writeRm16 (fun _ hr => List.mem_cons_of_mem _ hr) hu).setReg16 List.mem_cons_self v

theorem xchgAx_frame {r : Reg16} (hi : [.ax, r] ⊆ i.regsWritten) (h : xchgAx r s = .next t) : Frame i s t := by
  cases h
  exact ((Frame.refl i s).setReg16 (hi (by simp)) _).setReg16 (hi (by simp)) _

theorem loadFar_frame {q : SReg} {r : Reg16} {m : MemOp} (hr : r ∈ i.regsWritten) (hq : q ∈ i.segsWritten)
    (h : loadFar q r m s = .next t) : Frame i s t :=
  read_then_frame h fun _ => ((Frame.refl i s).setReg16 hr _).setSreg hq _

theorem inAl_frame {port : Word} (hr : .ax ∈ i.regsWritten) (ha : takesAnswer i = true) (he : putsEvent i = true)
    (h : inAl port s = .next t) : Frame i s t := by
  cases h
  exact (((Frame.refl i s).takeReply ha).emit he _).setReg8 (r := .al) hr _

theorem inAx_frame {port : Word} (hr : .ax ∈ i.regsWritten) (ha : takesAnswer i = true) (he : putsEvent i = true)
    (h : inAx port s = .next t) : Frame i s t := by
  cases h
  exact (((Frame.refl i s).takeReply ha).emit he _).setReg16 hr _

theorem emit_frame {e : BusEvent} (he : putsEvent i = true)
    (h : (.next (s.emit e) : Host.Outcome State Fault Refusal) = .next t) : Frame i s t := by
  cases h
  exact (Frame.refl i s).emit he e

theorem setReg16_frame {r : Reg16} {v : Word} (hr : r ∈ i.regsWritten)
    (h : (.next (s.setReg16 r v) : Host.Outcome State Fault Refusal) = .next t) : Frame i s t := by
  cases h
  exact (Frame.refl i s).setReg16 hr v

theorem writeRm8_frame {d : Rm8} {v : Byte} (hd : d.regs ⊆ i.regsWritten) (h : finish (s.writeRm8 d v) = .next t) :
    Frame i s t := (Frame.refl i s).writeRm8 hd (finish_eq_next.1 h)

theorem writeRm16_frame {d : Rm16} {v : Word} (hd : d.regs ⊆ i.regsWritten) (h : finish (s.writeRm16 d v) = .next t) :
    Frame i s t := (Frame.refl i s).writeRm16 hd (finish_eq_next.1 h)

theorem memWrite8_frame {g o : Word} {v : Byte} (h : finish (s.memWrite8 g o v) = .next t) : Frame i s t := by
  obtain ⟨-, rfl⟩ := memWrite8_eq_ok.1 (finish_eq_next.1 h)
  exact (Frame.refl i s).storeByte g o v

theorem memWrite16_frame {g o v : Word} (h : finish (s.memWrite16 g o v) = .next t) : Frame i s t := by
  obtain ⟨-, rfl⟩ := memWrite16_eq_ok.1 (finish_eq_next.1 h)
  exact (Frame.refl i s).storeWord g o v

/-- POPF loads every flag (R133), TF and IF too. -/
theorem execPopf_frame (h : execPopf s = .next t) : Frame .popf s t := by
  obtain ⟨p, hp, h⟩ := bind_eq_ok.1 (finish_eq_next.1 h)
  cases h
  have hf : Frame .popf s p.2 := (Frame.refl _ s).pop16 List.mem_cons_self hp
  exact { hf with
    flag := fun f hn => absurd (show f ∈ Flag.all by cases f <;> decide) hn
    trapFlag := fun _ => .inr (.inl rfl)
    intFlag := fun _ => .inr (.inr (.inl rfl)) }

theorem execSahf_frame (h : execSahf s = .next t) : Frame .sahf s t := by
  cases h
  refine (Frame.refl .sahf s).setFlags (F := [.SF, .ZF, .AF, .PF, .CF]) (fun _ hf => hf) (by decide) fun x hx => ?_
  cases x with
  | OF | DF | IF | TF => rfl
  | _ => simp at hx

/-! ### The adjustments -/

theorem asciiAdjust_frame (hr : .ax ∈ i.regsWritten) (hi : Flag.status ⊆ i.flagsWritten) (six one : Byte) :
    Frame i s (asciiAdjust s six one) := by
  refine Frame.drew ?_ _
  exact ((Frame.refl i s).setReg16 hr _).setStatus hi rfl rfl rfl

theorem Frame.setBcdFlags (hf : Frame i s t) (hi : Flag.status ⊆ i.flagsWritten) (al : Byte) :
    Frame i s (t.setBcdFlags al) := by
  refine Frame.drew ?_ _
  exact hf.setStatus hi rfl rfl rfl

theorem decimalAdjust_frame (hr : .ax ∈ i.regsWritten) (hi : Flag.status ⊆ i.flagsWritten) (low high : Byte → Byte)
    (carry : Bool) : Frame i s (decimalAdjust s low high carry) := by
  refine Frame.drew ?_ _
  exact ((Frame.refl i s).setReg8 (r := .al) hr _).setStatus hi rfl rfl rfl

/-! ### Products and quotients -/

theorem Frame.setWide (hf : Frame i s t) (hi : [Flag.OF, Flag.CF] ⊆ i.flagsWritten) (b : Bool) : Frame i s (t.setWide b) :=
  hf.setCarryOverflow hi b b

theorem Frame.divideError (hf : Frame i s u) (hi : MayEnter i) (h : u.divideError = .ok t) : Frame i s t := hf.interrupt hi h

theorem execDivRm8_frame {m : Rm8} (h : execDivRm8 m s = .next t) : Frame (.divRm8 m) s t := by
  obtain ⟨d, -, h⟩ := bind_eq_ok.1 (finish_eq_next.1 h)
  split at h
  · exact (Frame.refl _ s).divideError ⟨.tail _ (.head _), .head _, fun _ hf => hf, rfl⟩ h
  · cases h
    exact (Frame.refl _ s).setReg16 (.head _) _

theorem execDivRm16_frame {m : Rm16} (h : execDivRm16 m s = .next t) : Frame (.divRm16 m) s t := by
  obtain ⟨d, -, h⟩ := bind_eq_ok.1 (finish_eq_next.1 h)
  split at h
  · exact (Frame.refl _ s).divideError ⟨.tail _ (.tail _ (.head _)), .head _, fun _ hf => hf, rfl⟩ h
  · cases h
    exact ((Frame.refl _ s).setReg16 (.head _) _).setReg16 (.tail _ (.head _)) _

theorem execIdivRm8_frame {m : Rm8} (h : execIdivRm8 m s = .next t) : Frame (.idivRm8 m) s t := by
  obtain ⟨d, -, h⟩ := bind_eq_ok.1 (finish_eq_next.1 h)
  split at h
  · exact (Frame.refl _ s).divideError ⟨.tail _ (.head _), .head _, fun _ hf => hf, rfl⟩ h
  · cases h
    exact (Frame.refl _ s).setReg16 (.head _) _

theorem execIdivRm16_frame {m : Rm16} (h : execIdivRm16 m s = .next t) : Frame (.idivRm16 m) s t := by
  obtain ⟨d, -, h⟩ := bind_eq_ok.1 (finish_eq_next.1 h)
  split at h
  · exact (Frame.refl _ s).divideError ⟨.tail _ (.tail _ (.head _)), .head _, fun _ hf => hf, rfl⟩ h
  · cases h
    exact ((Frame.refl _ s).setReg16 (.head _) _).setReg16 (.tail _ (.head _)) _

/-! ### The shapes of Machine/Control.lean -/

theorem transfer_frame {v : Word} (hi : mayTransfer i = true)
    (h : (.next (s.transfer v) : Host.Outcome State Fault Refusal) = .next t) : Frame i s t := by
  cases h
  exact (Frame.refl i s).transfer hi v

theorem jumpIf_frame {c : Bool} {d : Byte} (hi : mayTransfer i = true) (h : jumpIf c d s = .next t) : Frame i s t := by
  cases h
  cases c with
  | true => exact (Frame.refl i s).transfer hi _
  | false => exact Frame.refl i s

theorem loopIf_frame {c : Bool} {d : Byte} (hr : .cx ∈ i.regsWritten) (hi : mayTransfer i = true)
    (h : loopIf c d s = .next t) : Frame i s t := by
  cases h
  have hf := (Frame.refl i s).setReg16 hr (s.regs.cx - 1)
  split
  · exact hf.transfer hi _
  · exact hf

theorem callNear_frame {v : Word} (hr : .sp ∈ i.regsWritten) (hi : mayTransfer i = true) (h : callNear v s = .next t) :
    Frame i s t := by
  obtain ⟨u, hu, h⟩ := bind_eq_ok.1 (finish_eq_next.1 h)
  cases h
  exact ((Frame.refl i s).push16 hr hu).transfer hi v

theorem callFarTo_frame {g o : Word} (hr : .sp ∈ i.regsWritten) (hq : .cs ∈ i.segsWritten) (hi : mayTransfer i = true)
    (h : callFarTo g o s = .next t) : Frame i s t := by
  obtain ⟨u, hu, h⟩ := bind_eq_ok.1 (finish_eq_next.1 h)
  obtain ⟨w, hw, h⟩ := bind_eq_ok.1 h
  cases h
  exact ((((Frame.refl i s).push16 hr hu).push16 hr hw).transfer hi o).setSreg hq g

theorem execCallRm16_frame {m : Rm16} (h : execCallRm16 m s = .next t) : Frame (.callRm16 m) s t := by
  unfold execCallRm16 at h
  split at h
  · exact callNear_frame (.head _) rfl h
  · cases h

theorem execCallM_frame {m : MemOp} (h : execCallM m s = .next t) : Frame (.callM m) s t := by
  unfold execCallM at h
  split at h
  · exact callFarTo_frame (.head _) (.head _) rfl h
  · cases h

theorem retNear_frame {v : Word} (hr : .sp ∈ i.regsWritten) (hi : mayTransfer i = true) (h : retNear v s = .next t) :
    Frame i s t := by
  obtain ⟨p, hp, h⟩ := bind_eq_ok.1 (finish_eq_next.1 h)
  cases h
  exact (((Frame.refl i s).pop16 hr hp).transfer hi _).setReg16 hr _

theorem retFar_frame {v : Word} (hr : .sp ∈ i.regsWritten) (hq : .cs ∈ i.segsWritten) (hi : mayTransfer i = true)
    (h : retFar v s = .next t) : Frame i s t := by
  obtain ⟨o, ho, h⟩ := bind_eq_ok.1 (finish_eq_next.1 h)
  obtain ⟨g, hg, h⟩ := bind_eq_ok.1 h
  cases h
  exact (((((Frame.refl i s).pop16 hr ho).pop16 hr hg).transfer hi _).setSreg hq _).setReg16 hr _

theorem softInterrupt_frame {n : Byte} {c o : Word} (hi : MayEnter i) (h : finish (s.interrupt n c o) = .next t) :
    Frame i s t := (Frame.refl i s).interrupt hi (finish_eq_next.1 h)

theorem execInto_frame (h : execInto s = .next t) : Frame .into s t := by
  unfold execInto at h
  split at h
  · exact softInterrupt_frame ⟨.head _, .head _, fun _ hf => hf, rfl⟩ h
  · cases h
    exact Frame.refl _ s

/-- IRET loads every flag and clears the NMI latch (R403, R33). -/
theorem execIret_frame (h : execIret s = .next t) : Frame .iret s t := by
  obtain ⟨o, ho, h⟩ := bind_eq_ok.1 (finish_eq_next.1 h)
  obtain ⟨g, hg, h⟩ := bind_eq_ok.1 h
  obtain ⟨f, hf, h⟩ := bind_eq_ok.1 h
  cases h
  have hp : Frame .iret s f.2 := (((Frame.refl _ s).pop16 (.head _) ho).pop16 (.head _) hg).pop16 (.head _) hf
  have hc : Frame .iret s ((f.2.transfer o.1).setSreg .cs g.1) := (hp.transfer rfl _).setSreg (.head _) _
  exact { hc with
    flag := fun f hn => absurd (show f ∈ Flag.all by cases f <;> decide) hn
    trapFlag := fun _ => .inr (.inr rfl)
    intFlag := fun _ => .inr (.inr (.inr rfl))
    nmiBlocked := fun hn => absurd rfl hn }

theorem nmiBlocked_of_execIret (h : execIret s = .next t) : t.nmiBlocked = false := by
  obtain ⟨-, rfl⟩ := interruptReturn_eq_ok.1 (finish_eq_next.1 h)
  rfl

/-! ### String instructions -/

/-- One element keeps the frame, from whatever state it starts. -/
def KeepsFrame (i : Instr) (s : State) (el : State → Res State) : Prop :=
  ∀ u v, Frame i s u → el u = .ok v → Frame i s v

theorem movs8_frame (hsi : .si ∈ i.regsWritten) (hdi : .di ∈ i.regsWritten) : KeepsFrame i s movs8 := by
  intro u v hf h
  obtain ⟨b, -, h⟩ := bind_eq_ok.1 h
  obtain ⟨w, hw, h⟩ := bind_eq_ok.1 h
  obtain ⟨-, rfl⟩ := memWrite8_eq_ok.1 hw
  cases h
  exact ((hf.storeByte _ _ b).setReg16 hsi _).setReg16 hdi _

theorem movs16_frame (hsi : .si ∈ i.regsWritten) (hdi : .di ∈ i.regsWritten) : KeepsFrame i s movs16 := by
  intro u v hf h
  obtain ⟨b, -, h⟩ := bind_eq_ok.1 h
  obtain ⟨w, hw, h⟩ := bind_eq_ok.1 h
  obtain ⟨-, rfl⟩ := memWrite16_eq_ok.1 hw
  cases h
  exact ((hf.storeWord _ _ b).setReg16 hsi _).setReg16 hdi _

theorem cmps8_frame (hsi : .si ∈ i.regsWritten) (hdi : .di ∈ i.regsWritten) (hi : Flag.status ⊆ i.flagsWritten) :
    KeepsFrame i s cmps8 := by
  intro u v hf h
  obtain ⟨a, -, h⟩ := bind_eq_ok.1 h
  obtain ⟨b, -, h⟩ := bind_eq_ok.1 h
  cases h
  exact ((hf.setStatus (g := (subFlags u.flags a b false).2) hi rfl rfl rfl).setReg16 hsi _).setReg16 hdi _

theorem cmps16_frame (hsi : .si ∈ i.regsWritten) (hdi : .di ∈ i.regsWritten) (hi : Flag.status ⊆ i.flagsWritten) :
    KeepsFrame i s cmps16 := by
  intro u v hf h
  obtain ⟨a, -, h⟩ := bind_eq_ok.1 h
  obtain ⟨b, -, h⟩ := bind_eq_ok.1 h
  cases h
  exact ((hf.setStatus (g := (subFlags u.flags a b false).2) hi rfl rfl rfl).setReg16 hsi _).setReg16 hdi _

theorem scas8_frame (hdi : .di ∈ i.regsWritten) (hi : Flag.status ⊆ i.flagsWritten) : KeepsFrame i s scas8 := by
  intro u v hf h
  obtain ⟨b, -, h⟩ := bind_eq_ok.1 h
  cases h
  exact (hf.setStatus (g := (subFlags u.flags (u.reg8 .al) b false).2) hi rfl rfl rfl).setReg16 hdi _

theorem scas16_frame (hdi : .di ∈ i.regsWritten) (hi : Flag.status ⊆ i.flagsWritten) : KeepsFrame i s scas16 := by
  intro u v hf h
  obtain ⟨b, -, h⟩ := bind_eq_ok.1 h
  cases h
  exact (hf.setStatus (g := (subFlags u.flags u.regs.ax b false).2) hi rfl rfl rfl).setReg16 hdi _

theorem lods8_frame (hax : .ax ∈ i.regsWritten) (hsi : .si ∈ i.regsWritten) : KeepsFrame i s lods8 := by
  intro u v hf h
  obtain ⟨b, -, h⟩ := bind_eq_ok.1 h
  cases h
  exact (hf.setReg8 (r := .al) hax b).setReg16 hsi _

theorem lods16_frame (hax : .ax ∈ i.regsWritten) (hsi : .si ∈ i.regsWritten) : KeepsFrame i s lods16 := by
  intro u v hf h
  obtain ⟨b, -, h⟩ := bind_eq_ok.1 h
  cases h
  exact (hf.setReg16 hax b).setReg16 hsi _

theorem stos8_frame (hdi : .di ∈ i.regsWritten) : KeepsFrame i s stos8 := by
  intro u v hf h
  obtain ⟨w, hw, h⟩ := bind_eq_ok.1 h
  obtain ⟨-, rfl⟩ := memWrite8_eq_ok.1 hw
  cases h
  exact (hf.storeByte _ _ _).setReg16 hdi _

theorem stos16_frame (hdi : .di ∈ i.regsWritten) : KeepsFrame i s stos16 := by
  intro u v hf h
  obtain ⟨w, hw, h⟩ := bind_eq_ok.1 h
  obtain ⟨-, rfl⟩ := memWrite16_eq_ok.1 hw
  cases h
  exact (hf.storeWord _ _ _).setReg16 hdi _

theorem repOnce_frame {el : State → Res State} (hcx : .cx ∈ i.regsWritten) (hel : KeepsFrame i s el) :
    KeepsFrame i s (repOnce el) := by
  intro u v hf h
  obtain ⟨w, hw, h⟩ := bind_eq_ok.1 h
  cases h
  exact (hel u w hf hw).setReg16 hcx _

theorem repeated_frame {j : Instr} {el : State → Res State} {cond : Option RepKind} (hcx : .cx ∈ i.regsWritten)
    (hel : KeepsFrame i s el) (h : repeated j el cond s = .ok t) : Frame i s t := by
  unfold repeated at h
  split at h
  · obtain ⟨u, hu, h⟩ := bind_eq_ok.1 h
    have hf := repOnce_frame hcx hel s u (Frame.refl i s) hu
    cases h
    split
    · exact hf
    · exact hf.setPause _
  · exact repLoop_inv (Frame i s) (repOnce_frame hcx hel) (Frame.refl i s) h

theorem plainRep_frame {j : Instr} {el : State → Res State} (hcx : .cx ∈ i.regsWritten) (hel : KeepsFrame i s el)
    (h : plainRep j el s = .next t) : Frame i s t := by
  unfold plainRep at h
  split at h
  · exact hel s t (Frame.refl i s) (finish_eq_next.1 h)
  · exact repeated_frame hcx hel (finish_eq_next.1 h)

theorem condRep_frame {j : Instr} {el : State → Res State} (hcx : .cx ∈ i.regsWritten) (hel : KeepsFrame i s el)
    (h : condRep j el s = .next t) : Frame i s t := by
  unfold condRep at h
  split at h
  · exact hel s t (Frame.refl i s) (finish_eq_next.1 h)
  · exact repeated_frame hcx hel (finish_eq_next.1 h)

/-! ### Recording what stands before an instruction, and processor control -/

theorem recordSeg_frame {q : SReg} (hi : i.isPrefix = true) (h : recordSeg q s = .next t) : Frame i s t := by
  unfold recordSeg at h
  split at h
  · cases h
  · cases h
    exact (Frame.refl i s).setPfx hi _

theorem recordRep_frame {k : RepKind} (hi : i.isPrefix = true) (h : recordRep k s = .next t) : Frame i s t := by
  unfold recordRep at h
  split at h
  · cases h
  · cases h
    exact (Frame.refl i s).setPfx hi _

theorem recordLock_frame (h : recordLock s = .next t) : Frame .lock s t := by
  unfold recordLock at h
  split at h
  · cases h
  · cases h
    exact ((Frame.refl _ s).setPfx rfl _).emit rfl _

theorem execWait_frame (h : execWait s = .next t) : Frame .wait s t := by
  unfold execWait at h
  split at h
  · cases h
    exact Frame.refl _ s
  · cases h
    exact { Frame.refl Instr.wait s with }

theorem execHlt_frame (h : execHlt s = .next t) : Frame .hlt s t := by
  cases h
  exact { Frame.refl Instr.hlt s with halted := fun _ => .inr rfl }

theorem execCli_frame (h : execCli s = .next t) : Frame .cli s t := by
  cases h
  refine (Frame.refl _ s).clearFlags (fun f hn => ?_) id fun h => absurd h Bool.false_ne_true
  cases f with
  | IF => exact absurd (.head _) hn
  | _ => rfl

theorem execSti_frame (h : execSti s = .next t) : Frame .sti s t := by
  cases h
  refine { Frame.refl Instr.sti s with flag := fun f hn => ?_, intFlag := fun _ => .inr (.inl rfl) }
  cases f with
  | IF => exact absurd (.head _) hn
  | _ => rfl

theorem setCarry_frame {c : Bool} (hi : [Flag.CF] ⊆ i.flagsWritten)
    (h : (.next (s.setFlags { s.flags with CF := c }) : Host.Outcome State Fault Refusal) = .next t) : Frame i s t := by
  cases h
  exact (Frame.refl i s).setCarry hi c

theorem setDirection_frame {b : Bool} (hi : [Flag.DF] ⊆ i.flagsWritten)
    (h : (.next (s.setFlags { s.flags with DF := b }) : Host.Outcome State Fault Refusal) = .next t) : Frame i s t := by
  cases h
  exact (Frame.refl i s).setDirection hi b

/-! ### Every instruction -/

/-- Whatever instruction runs, its frame is kept: one line for the instructions of a shape. -/
theorem exec_frame (h : exec i s = .next t) : Frame i s t := by
  cases i <;> dsimp only [exec] at h
  case addRm8R8 | addRm8Imm8 | addAlImm8 | adcRm8R8 | adcRm8Imm8 | adcAlImm8 | subRm8R8 | subRm8Imm8 | subAlImm8 | sbbRm8R8
      | sbbRm8Imm8 | sbbAlImm8 =>
    exact updRm8_frame h (fun _ => setStatus_frame (.refl _) rfl rfl rfl) (.refl _)
  case addRm16R16 | addRm16Imm16 | addAxImm16 | addRm16Imm8 | adcRm16R16 | adcRm16Imm16 | adcAxImm16 | adcRm16Imm8
      | subRm16R16 | subRm16Imm16 | subAxImm16 | subRm16Imm8 | sbbRm16R16 | sbbRm16Imm16 | sbbAxImm16 | sbbRm16Imm8 =>
    exact updRm16_frame h (fun _ => setStatus_frame (.refl _) rfl rfl rfl) (.refl _)
  case addR8Rm8 | adcR8Rm8 | subR8Rm8 | sbbR8Rm8 =>
    exact updR8_frame h (fun _ => setStatus_frame (.refl _) rfl rfl rfl) (.head _)
  case addR16Rm16 | adcR16Rm16 | subR16Rm16 | sbbR16Rm16 =>
    exact updR16_frame h (fun _ => setStatus_frame (.refl _) rfl rfl rfl) (.head _)
  case orRm8R8 | orRm8Imm8 | orAlImm8 | andRm8R8 | andRm8Imm8 | andAlImm8 | xorRm8R8 | xorRm8Imm8 | xorAlImm8 =>
    exact updRm8_frame h (fun _ => logicOp_frame (.refl _)) (.refl _)
  case orRm16R16 | orRm16Imm16 | orAxImm16 | andRm16R16 | andRm16Imm16 | andAxImm16 | xorRm16R16 | xorRm16Imm16 | xorAxImm16 =>
    exact updRm16_frame h (fun _ => logicOp_frame (.refl _)) (.refl _)
  case orR8Rm8 | andR8Rm8 | xorR8Rm8 => exact updR8_frame h (fun _ => logicOp_frame (.refl _)) (.head _)
  case orR16Rm16 | andR16Rm16 | xorR16Rm16 => exact updR16_frame h (fun _ => logicOp_frame (.refl _)) (.head _)
  case cmpRm8R8 | cmpRm8Imm8 | cmpAlImm8 => exact cmpRm8_frame h fun _ => setStatus_frame (.refl _) rfl rfl rfl
  case cmpRm16R16 | cmpRm16Imm16 | cmpAxImm16 | cmpRm16Imm8 =>
    exact cmpRm16_frame h fun _ => setStatus_frame (.refl _) rfl rfl rfl
  case cmpR8Rm8 => exact cmpR8_frame h fun _ => setStatus_frame (.refl _) rfl rfl rfl
  case cmpR16Rm16 => exact cmpR16_frame h fun _ => setStatus_frame (.refl _) rfl rfl rfl
  case testRm8R8 | testRm8Imm8 | testAlImm8 => exact cmpRm8_frame h fun _ => logicOp_frame (.refl _)
  case testRm16R16 | testRm16Imm16 | testAxImm16 => exact cmpRm16_frame h fun _ => logicOp_frame (.refl _)
  case incRm8 | decRm8 => exact unRm8_frame h (fun _ => setStatusKeepCarry_frame (.refl _) rfl rfl rfl) (.refl _)
  case incR16 | incRm16 | decR16 | decRm16 =>
    exact unRm16_frame h (fun _ => setStatusKeepCarry_frame (.refl _) rfl rfl rfl) (.refl _)
  case negRm8 => exact unRm8_frame h (fun _ => setStatus_frame (.refl _) rfl rfl rfl) (.refl _)
  case negRm16 => exact unRm16_frame h (fun _ => setStatus_frame (.refl _) rfl rfl rfl) (.refl _)
  case notRm8 => exact unRm8_frame h (fun _ => notOp_frame) (.refl _)
  case notRm16 => exact unRm16_frame h (fun _ => notOp_frame) (.refl _)
  case rolRm8One | rorRm8One | rclRm8One | rcrRm8One | shrRm8One | sarRm8One =>
    exact unRm8_frame h (fun _ => shiftOne_frame (.refl _)) (.refl _)
  case rolRm16One | rorRm16One | rclRm16One | rcrRm16One | shrRm16One | sarRm16One =>
    exact unRm16_frame h (fun _ => shiftOne_frame (.refl _)) (.refl _)
  case rolRm8Cl | rorRm8Cl | rclRm8Cl | rcrRm8Cl | shrRm8Cl =>
    exact unRm8_frame h (fun _ => shiftMany_frame (.refl _)) (.refl _)
  case rolRm16Cl | rorRm16Cl | rclRm16Cl | rcrRm16Cl | shrRm16Cl =>
    exact unRm16_frame h (fun _ => shiftMany_frame (.refl _)) (.refl _)
  case sarRm8Cl => exact unRm8_frame h (fun _ => sarCl_frame (.refl _)) (.refl _)
  case sarRm16Cl => exact unRm16_frame h (fun _ => sarCl_frame (.refl _)) (.refl _)
  case salRm8One => exact unRm8_frame h (fun _ => salOne_frame (.refl _)) (.refl _)
  case salRm16One => exact unRm16_frame h (fun _ => salOne_frame (.refl _)) (.refl _)
  case salRm8Cl => exact unRm8_frame h (fun _ => salCl_frame (.refl _)) (.refl _)
  case salRm16Cl => exact unRm16_frame h (fun _ => salCl_frame (.refl _)) (.refl _)
  case mulRm8 | imulRm8 => exact read_then_frame h fun _ => ((Frame.refl _ s).setReg16 (.head _) _).setWide (.refl _) _
  case mulRm16 | imulRm16 =>
    exact read_then_frame h fun _ =>
      (((Frame.refl _ s).setReg16 (.head _) _).setReg16 (.tail _ (.head _)) _).setWide (.refl _) _
  case divRm8 => exact execDivRm8_frame h
  case divRm16 => exact execDivRm16_frame h
  case idivRm8 => exact execIdivRm8_frame h
  case idivRm16 => exact execIdivRm16_frame h
  case daa | das => cases h; exact decimalAdjust_frame (.head _) (.refl _) _ _ _
  case aaa | aas => cases h; exact asciiAdjust_frame (.head _) (.refl _) _ _
  case aam | aad => cases h; exact ((Frame.refl _ s).setReg16 (.head _) _).setBcdFlags (.refl _) _
  case pushEs | pushCs | pushSs | pushDs | pushf => exact pushWord_frame (.head _) h
  case pushR16 | pushRm16 => exact pushRm16_frame (.head _) h
  case popEs | popSs | popDs => exact popSreg_frame (.head _) (.head _) h
  case popR16 | popRm16 => exact popRm16_frame (.refl _) h
  case popf => exact execPopf_frame h
  case xchgRm8R8 => exact execXchgRm8R8_frame h
  case xchgRm16R16 => exact execXchgRm16R16_frame h
  case xchgAxCx | xchgAxDx | xchgAxBx | xchgAxSp | xchgAxBp | xchgAxSi | xchgAxDi => exact xchgAx_frame (.refl _) h
  case movRm8R8 | movRm8Imm8 => exact writeRm8_frame (.refl _) h
  case movRm16R16 | movRm16Imm16 | movRm16Sreg => exact writeRm16_frame (.refl _) h
  case movR8Rm8 | movAlM8 | xlatb => exact map_read_frame h fun _ => (Frame.refl _ s).setReg8 (.head _) _
  case movR16Rm16 | movAxM16 => exact map_read_frame h fun _ => (Frame.refl _ s).setReg16 (.head _) _
  case movEsRm16 | movSsRm16 | movDsRm16 => exact map_read_frame h fun _ => (Frame.refl _ s).setSreg (.head _) _
  case movM8Al => exact memWrite8_frame h
  case movM16Ax => exact memWrite16_frame h
  case movR8Imm8 | movR16Imm16 | lea | cbw | cwd | lahf => exact setReg16_frame (.head _) h
  case les | lds => exact loadFar_frame (.head _) (.head _) h
  case sahf => exact execSahf_frame h
  case inAlImm8 | inAlDx => exact inAl_frame (.head _) rfl rfl h
  case inAxImm8 | inAxDx => exact inAx_frame (.head _) rfl rfl h
  case outImm8Al | outImm8Ax | outDxAl | outDxAx | esc => exact emit_frame rfl h
  case jo | jno | jb | jnb | je | jne | jbe | jnbe | js | jns | jp | jnp | jl | jnl | jle | jnle | jcxz =>
    exact jumpIf_frame rfl h
  case loopne | loope | loop => exact loopIf_frame (.head _) rfl h
  case jmpRel8 | jmpRel16 => exact transfer_frame rfl h
  case jmpRm16 => exact map_read_frame h fun _ => (Frame.refl _ s).transfer rfl _
  case jmpFar => cases h; exact ((Frame.refl _ s).transfer rfl _).setSreg (.head _) _
  case jmpM => exact read_then_frame h fun _ => ((Frame.refl _ s).transfer rfl _).setSreg (.head _) _
  case callRel16 => exact callNear_frame (.head _) rfl h
  case callFar => exact callFarTo_frame (.head _) (.head _) rfl h
  case callRm16 => exact execCallRm16_frame h
  case callM => exact execCallM_frame h
  case retNear | retNearImm16 => exact retNear_frame (.head _) rfl h
  case retFar | retFarImm16 => exact retFar_frame (.head _) (.head _) rfl h
  case int3 | int => exact softInterrupt_frame ⟨.head _, .head _, fun _ hf => hf, rfl⟩ h
  case into => exact execInto_frame h
  case iret => exact execIret_frame h
  case movsb => exact plainRep_frame (.tail _ (.tail _ (.head _))) (movs8_frame (.head _) (.tail _ (.head _))) h
  case movsw => exact plainRep_frame (.tail _ (.tail _ (.head _))) (movs16_frame (.head _) (.tail _ (.head _))) h
  case cmpsb => exact condRep_frame (.tail _ (.tail _ (.head _))) (cmps8_frame (.head _) (.tail _ (.head _)) (.refl _)) h
  case cmpsw => exact condRep_frame (.tail _ (.tail _ (.head _))) (cmps16_frame (.head _) (.tail _ (.head _)) (.refl _)) h
  case stosb => exact plainRep_frame (.tail _ (.head _)) (stos8_frame (.head _)) h
  case stosw => exact plainRep_frame (.tail _ (.head _)) (stos16_frame (.head _)) h
  case lodsb => exact plainRep_frame (.tail _ (.tail _ (.head _))) (lods8_frame (.head _) (.tail _ (.head _))) h
  case lodsw => exact plainRep_frame (.tail _ (.tail _ (.head _))) (lods16_frame (.head _) (.tail _ (.head _))) h
  case scasb => exact condRep_frame (.tail _ (.head _)) (scas8_frame (.head _) (.refl _)) h
  case scasw => exact condRep_frame (.tail _ (.head _)) (scas16_frame (.head _) (.refl _)) h
  case segEs | segCs | segSs | segDs => exact recordSeg_frame rfl h
  case rep | repne => exact recordRep_frame rfl h
  case lock => exact recordLock_frame h
  case nop => cases h; exact Frame.refl _ s
  case wait => exact execWait_frame h
  case hlt => exact execHlt_frame h
  case cmc | clc | stc => exact setCarry_frame (.refl _) h
  case cld | std => exact setDirection_frame (.refl _) h
  case cli => exact execCli_frame h
  case sti => exact execSti_frame h
  case unused => cases h

/-- Settles O57: the register part of the frame. -/
theorem registerFrame : Obligations.RegisterFrame :=
  fun _ _ _ h => ⟨(exec_frame h).reg16, (exec_frame h).sreg⟩

/-- Settles O58: the flag part of the frame. -/
theorem flagFrame : Obligations.FlagFrame := fun _ _ _ h => (exec_frame h).flag

/-- The NMI latch is cleared by IRET and kept by all other instructions (R33). -/
theorem exec_nmiBlocked (h : exec i s = .next t) : t.nmiBlocked = if i = .iret then false else s.nmiBlocked := by
  split
  next hi =>
    subst hi
    exact nmiBlocked_of_execIret h
  next hi => exact (exec_frame h).nmiBlocked hi

/-- Settles O60: the control part of the frame. -/
theorem controlStateFrame : Obligations.ControlStateFrame := by
  intro i s t h
  have hf := exec_frame h
  exact ⟨hf.trapFlag, hf.intFlag, exec_nmiBlocked h, hf.halted, hf.pfx, hf.ioReplies, hf.outputs, hf.ahead, hf.instrStart,
    hf.tfAtStart, hf.cfg, hf.inputs⟩

end Sys2Proof.Machine
end

section
/-! SUPPORT. Decoding undoes encoding (30_encoding R88 to R106): what each reader of the decoder does on the bytes
that the encoder writes for a field of that kind, then one theorem over all instructions. -/

namespace Sys2Proof

open Machine (bit5_eq_le wordOf_loByte_hiByte unusedPair_eq_listedR103)

/-! ### Fields -/

@[simp] theorem modOf_modrm (md : BitVec 2) (reg rm : BitVec 3) : modOf (modrm md reg rm) = md := by
  revert md reg rm; decide

@[simp] theorem regOf_modrm (md : BitVec 2) (reg rm : BitVec 3) : regOf (modrm md reg rm) = reg := by
  revert md reg rm; decide

@[simp] theorem rmOf_modrm (md : BitVec 2) (reg rm : BitVec 3) : rmOf (modrm md reg rm) = rm := by
  revert md reg rm; decide

@[simp] theorem Reg8.ofCode_code (r : Reg8) : Reg8.ofCode r.code = r := by cases r <;> rfl

@[simp] theorem Reg16.ofCode_code (r : Reg16) : Reg16.ofCode r.code = r := by cases r <;> rfl

@[simp] theorem Base.ofCode_code (b : Base) : Base.ofCode b.code = b := by cases b <;> rfl

/-- A literal opcode as a number, which is what the opcode map splits on. -/
theorem byte_toNat (k : Nat) : BitVec.toNat (OfNat.ofNat k : Byte) = k % 256 := rfl

/-! ### Readers on what the encoder writes -/

variable {n : BitVec 3} {bs : List Byte} {op : Byte}

theorem withWord_encWord (w : Word) (bs : List Byte) (k : Word → List Byte → Decoded) :
    withWord (encWord w ++ bs) k = k w bs :=
  congrArg (k · bs) (wordOf_loByte_hiByte w)

/-- The bytes of a memory operand: ModRegR/M with the Reg field asked for and Mod not 11, then what `withMem`
reads (R92, R94). -/
theorem encMem_cons (n : BitVec 3) (m : MemOp) : ∃ b tl, encMem n m = b :: tl ∧ regOf b = n ∧ modOf b ≠ 3 ∧
    (m.wf = true → ∀ bs k, withMem (modOf b) (rmOf b) (tl ++ bs) k = k m bs) := by
  cases m with
  | abs d => exact ⟨_, _, rfl, by simp, by simp, fun _ bs k => by simp [withMem, withWord_encWord]⟩
  | ind c =>
    refine ⟨_, _, rfl, by simp, by simp, fun h bs k => ?_⟩
    rw [modOf_modrm, rmOf_modrm]
    cases c with
    | bp => cases h
    | _ => rfl
  | ind8 c d => exact ⟨_, _, rfl, by simp, by simp, fun _ bs k => by simp [withMem, withByte]⟩
  | ind16 c d => exact ⟨_, _, rfl, by simp, by simp, fun _ bs k => by simp [withMem, withWord_encWord]⟩

theorem withRm8_encRm8 {d : Rm8} (h : d.wf = true) {k : BitVec 3 → Rm8 → List Byte → Decoded} :
    withRm8 (encRm8 n d ++ bs) k = k n d bs := by
  cases d with
  | reg r => simp [encRm8, withRm8, withByte]
  | mem m =>
    obtain ⟨b, tl, he, hr, hm, hk⟩ := encMem_cons n m
    simp only [encRm8, he, List.cons_append, withRm8, withByte, if_neg hm, hk h, hr]

theorem withRm16_encRm16 {d : Rm16} (h : d.wf = true) {k : BitVec 3 → Rm16 → List Byte → Decoded} :
    withRm16 (encRm16 n d ++ bs) k = k n d bs := by
  cases d with
  | reg r => simp [encRm16, withRm16, withByte]
  | mem m =>
    obtain ⟨b, tl, he, hr, hm, hk⟩ := encMem_cons n m
    simp only [encRm16, he, List.cons_append, withRm16, withByte, if_neg hm, hk h, hr]

theorem withRm16_encMem {m : MemOp} (h : m.wf = true) {k : BitVec 3 → Rm16 → List Byte → Decoded} :
    withRm16 (encMem n m ++ bs) k = k n (.mem m) bs := withRm16_encRm16 (d := .mem m) h

/-- `withRm8` under a name of its own: a row of the opcode map then unifies with it before the reader is unfolded, and `k` is
the row's own continuation. -/
def digitRm8 (bs : List Byte) (k : BitVec 3 → Rm8 → List Byte → Decoded) : Decoded := withRm8 bs k

/-- `withRm16`, as `digitRm8`. -/
def digitRm16 (bs : List Byte) (k : BitVec 3 → Rm16 → List Byte → Decoded) : Decoded := withRm16 bs k

theorem digitRm8_encRm8 {d : Rm8} (h : d.wf = true) {k : BitVec 3 → Rm8 → List Byte → Decoded} :
    digitRm8 (encRm8 n d ++ bs) k = k n d bs := withRm8_encRm8 h

theorem digitRm16_encRm16 {d : Rm16} (h : d.wf = true) {k : BitVec 3 → Rm16 → List Byte → Decoded} :
    digitRm16 (encRm16 n d ++ bs) k = k n d bs := withRm16_encRm16 h

theorem digitRm16_encMem {m : MemOp} (h : m.wf = true) {k : BitVec 3 → Rm16 → List Byte → Decoded} :
    digitRm16 (encMem n m ++ bs) k = k n (.mem m) bs := withRm16_encMem h

theorem rm8Reg8_encRm8 {d : Rm8} (h : d.wf = true) {r : Reg8} {k : Rm8 → Reg8 → Instr} :
    rm8Reg8 k (encRm8 r.code d ++ bs) = .ok (k d r, bs) := by
  rw [rm8Reg8, withRm8_encRm8 h, Reg8.ofCode_code]; rfl

theorem rm16Reg16_encRm16 {d : Rm16} (h : d.wf = true) {r : Reg16} {k : Rm16 → Reg16 → Instr} :
    rm16Reg16 k (encRm16 r.code d ++ bs) = .ok (k d r, bs) := by
  rw [rm16Reg16, withRm16_encRm16 h, Reg16.ofCode_code]; rfl

theorem rm8Reg8_encRm8_swap {d : Rm8} (h : d.wf = true) {r : Reg8} {k : Reg8 → Rm8 → Instr} :
    rm8Reg8 (fun d r => k r d) (encRm8 r.code d ++ bs) = .ok (k r d, bs) := rm8Reg8_encRm8 h

theorem rm16Reg16_encRm16_swap {d : Rm16} (h : d.wf = true) {r : Reg16} {k : Reg16 → Rm16 → Instr} :
    rm16Reg16 (fun d r => k r d) (encRm16 r.code d ++ bs) = .ok (k r d, bs) := rm16Reg16_encRm16 h

theorem memReg16_encMem {m : MemOp} (h : m.wf = true) {r : Reg16} {k : Reg16 → MemOp → Instr} :
    memReg16 k op (encMem r.code m ++ bs) = .ok (k r m, bs) := by
  rw [memReg16, withRm16_encMem h]
  simp only [Reg16.ofCode_code]
  rfl

theorem imm16_encWord {w : Word} {k : Word → Instr} : imm16 k (encWord w ++ bs) = .ok (k w, bs) :=
  withWord_encWord w bs _

theorem far_encWord {o g : Word} {k : Word → Word → Instr} :
    far k (encWord o ++ (encWord g ++ bs)) = .ok (k o g, bs) :=
  (withWord_encWord o _ _).trans (withWord_encWord g _ _)

/-! ### The unused pairs come first -/

theorem decode_cons (h : ∀ b ∈ bs.head?, unusedPair op b = false) : decode (op :: bs) = decodeOp op bs := by
  cases bs with
  | nil => rfl
  | cons b bs => simp [decode, h b rfl]

/-- Of the byte after the opcode the table of unused pairs asks for Reg and whether Mod is 11 (R103). It asks for the whole
byte of AAM and AAD only, where `0Ah` is the one that is used. -/
theorem unusedPair_congr {b c : Byte} (hr : regOf b = regOf c) (hm : (modOf b == 3) = (modOf c == 3)) (hc : c ≠ 0x0A)
    (h : unusedPair op c = false) : unusedPair op b = false := by
  have h5 : b.getLsbD 5 = c.getLsbD 5 := by
    calc b.getLsbD 5 = decide (4 ≤ (regOf b).toNat) := bit5_eq_le b
      _ = c.getLsbD 5 := by rw [hr]; exact (bit5_eq_le c).symm
  unfold unusedPair at h ⊢
  rw [hr, hm, h5]
  split at h <;> simp_all

theorem modrm_zero_ne {md : BitVec 2} {n : BitVec 3} : modrm md n 0 ≠ 0x0A := by revert md n; decide

theorem decode_encMem {m : MemOp} (h : unusedPair op (modrm 0 n 0) = false) :
    decode (op :: (encMem n m ++ bs)) = decodeOp op (encMem n m ++ bs) := by
  obtain ⟨b, tl, he, hr, hm, -⟩ := encMem_cons n m
  refine decode_cons fun c hc => unusedPair_congr ?_ ?_ modrm_zero_ne h
  all_goals simp only [he, List.cons_append, List.head?_cons, Option.mem_some_iff] at hc; subst hc
  · simp [hr]
  · rw [modOf_modrm, beq_false_of_ne hm]; rfl

theorem decode_encRm8 {d : Rm8} (hmem : unusedPair op (modrm 0 n 0) = false)
    (hreg : unusedPair op (modrm 3 n 0) = false) :
    decode (op :: (encRm8 n d ++ bs)) = decodeOp op (encRm8 n d ++ bs) := by
  cases d with
  | reg r => exact decode_cons fun b hb => unusedPair_congr (by cases hb; simp) (by cases hb; simp) modrm_zero_ne hreg
  | mem m => exact decode_encMem hmem

theorem decode_encRm16 {d : Rm16} (hmem : unusedPair op (modrm 0 n 0) = false)
    (hreg : unusedPair op (modrm 3 n 0) = false) :
    decode (op :: (encRm16 n d ++ bs)) = decodeOp op (encRm16 n d ++ bs) := by
  cases d with
  | reg r => exact decode_cons fun b hb => unusedPair_congr (by cases hb; simp) (by cases hb; simp) modrm_zero_ne hreg
  | mem m => exact decode_encMem hmem

/-! ### ESC: the opcode holds the top half of the coprocessor's operation (R290) -/

theorem decode_esc {x n : BitVec 3} {m : Rm16} (h : m.wf = true) :
    decode ((0b11011#5 ++ x) :: (encRm16 n m ++ bs)) = .ok (.esc (x ++ n) m, bs) := by
  have hx : x = 0 ∨ x = 1 ∨ x = 2 ∨ x = 3 ∨ x = 4 ∨ x = 5 ∨ x = 6 ∨ x = 7 := by revert x; decide
  rcases hx with rfl | rfl | rfl | rfl | rfl | rfl | rfl | rfl
  all_goals exact (decode_encRm16 rfl rfl).trans (digitRm16_encRm16 h)

/-! ### All instructions -/

/-- What `encode` writes decodes to the instruction and leaves what follows. The cases are grouped by the format of what
follows the opcode: the row of the opcode map calls the reader of that format. -/
theorem decode_encode (i : Instr) (h : i.wf = true) (rest : List Byte) : decode (encode i ++ rest) = .ok (i, rest) := by
  cases i
  case pushEs | pushCs | pushSs | pushDs | popEs | popSs | popDs | segEs | segCs | segSs | segDs | lock | repne
      | rep | daa | das | aaa | aas | xchgAxCx | xchgAxDx | xchgAxBx | xchgAxSp | xchgAxBp | xchgAxSi | xchgAxDi
      | nop | cbw | cwd | wait | pushf | popf | sahf | lahf | movsb | movsw | cmpsb | cmpsw | stosb | stosw | lodsb
      | lodsw | scasb | scasw | retNear | retFar | int3 | into | iret | xlatb | inAlDx | inAxDx | outDxAl | outDxAx
      | hlt | cmc | clc | stc | cli | sti | cld | std | addAlImm8 | orAlImm8 | adcAlImm8 | sbbAlImm8 | andAlImm8
      | subAlImm8 | xorAlImm8 | cmpAlImm8 | jo | jno | jb | jnb | je | jne | jbe | jnbe | js | jns | jp | jnp | jl
      | jnl | jle | jnle | testAlImm8 | int | loopne | loope | loop | jcxz | inAlImm8 | inAxImm8 | outImm8Al
      | outImm8Ax | jmpRel8 => exact decode_cons fun _ _ => rfl
  case aam | aad => rfl
  case pushR16 r | popR16 r | incR16 r | decR16 r | movR8Imm8 r _ =>
    cases r <;> exact decode_cons fun _ _ => rfl
  case movR16Imm16 r i => cases r <;> exact (decode_cons fun _ _ => rfl).trans imm16_encWord
  case addAxImm16 | orAxImm16 | adcAxImm16 | sbbAxImm16 | andAxImm16 | subAxImm16 | xorAxImm16 | cmpAxImm16
      | testAxImm16 | movAlM8 | movAxM16 | movM8Al | movM16Ax | retNearImm16 | retFarImm16 | callRel16 | jmpRel16 =>
    exact (decode_cons fun _ _ => rfl).trans imm16_encWord
  case callFar | jmpFar => exact (decode_cons fun _ _ => rfl).trans far_encWord
  case addRm8R8 | orRm8R8 | adcRm8R8 | sbbRm8R8 | andRm8R8 | subRm8R8 | xorRm8R8 | cmpRm8R8 | testRm8R8 | xchgRm8R8
      | movRm8R8 => exact (decode_encRm8 rfl rfl).trans (rm8Reg8_encRm8 h)
  case addR8Rm8 | orR8Rm8 | adcR8Rm8 | sbbR8Rm8 | andR8Rm8 | subR8Rm8 | xorR8Rm8 | cmpR8Rm8 | movR8Rm8 =>
    exact (decode_encRm8 rfl rfl).trans (rm8Reg8_encRm8_swap h)
  case addRm16R16 | orRm16R16 | adcRm16R16 | sbbRm16R16 | andRm16R16 | subRm16R16 | xorRm16R16 | cmpRm16R16
      | testRm16R16 | xchgRm16R16 | movRm16R16 => exact (decode_encRm16 rfl rfl).trans (rm16Reg16_encRm16 h)
  case addR16Rm16 | orR16Rm16 | adcR16Rm16 | sbbR16Rm16 | andR16Rm16 | subR16Rm16 | xorR16Rm16 | cmpR16Rm16
      | movR16Rm16 => exact (decode_encRm16 rfl rfl).trans (rm16Reg16_encRm16_swap h)
  case lea | les | lds =>
    refine Eq.trans (decode_encMem (congrArg (· == 3) (modOf_modrm ..))) ?_
    unfold decodeOp
    rewrite [byte_toNat]
    exact memReg16_encMem h
  case incRm8 | decRm8 | notRm8 | negRm8 | mulRm8 | imulRm8 | divRm8 | idivRm8 | rolRm8One | rorRm8One | rclRm8One
      | rcrRm8One | salRm8One | shrRm8One | sarRm8One | rolRm8Cl | rorRm8Cl | rclRm8Cl | rcrRm8Cl | salRm8Cl
      | shrRm8Cl | sarRm8Cl => exact (decode_encRm8 rfl rfl).trans (digitRm8_encRm8 h)
  case pushRm16 | incRm16 | decRm16 | callRm16 | jmpRm16 | popRm16 | movEsRm16 | movSsRm16 | movDsRm16 | rolRm16One
      | rorRm16One | rclRm16One | rcrRm16One | salRm16One | shrRm16One | sarRm16One | rolRm16Cl | rorRm16Cl
      | rclRm16Cl | rcrRm16Cl | salRm16Cl | shrRm16Cl | sarRm16Cl | notRm16 | negRm16 | mulRm16 | imulRm16 | divRm16
      | idivRm16 => exact (decode_encRm16 rfl rfl).trans (digitRm16_encRm16 h)
  case movRm16Sreg d r => cases r <;> exact (decode_encRm16 rfl rfl).trans (digitRm16_encRm16 h)
  case callM | jmpM => exact (decode_encMem rfl).trans (digitRm16_encMem h)
  case addRm8Imm8 | orRm8Imm8 | adcRm8Imm8 | sbbRm8Imm8 | andRm8Imm8 | subRm8Imm8 | xorRm8Imm8 | cmpRm8Imm8
      | testRm8Imm8 | movRm8Imm8 =>
    rewrite [encode, List.cons_append, List.cons_append, List.append_assoc]
    exact (decode_encRm8 rfl rfl).trans (digitRm8_encRm8 h)
  case addRm16Imm8 | adcRm16Imm8 | sbbRm16Imm8 | subRm16Imm8 | cmpRm16Imm8 =>
    rewrite [encode, List.cons_append, List.cons_append, List.append_assoc]
    exact (decode_encRm16 rfl rfl).trans (digitRm16_encRm16 h)
  case addRm16Imm16 | orRm16Imm16 | adcRm16Imm16 | sbbRm16Imm16 | andRm16Imm16 | subRm16Imm16 | xorRm16Imm16
      | cmpRm16Imm16 | testRm16Imm16 =>
    rewrite [encode, List.cons_append, List.cons_append, List.append_assoc]
    exact (decode_encRm16 rfl rfl).trans ((digitRm16_encRm16 h).trans (withWord_encWord _ rest _))
  case movRm16Imm16 =>
    rewrite [encode, List.cons_append, List.cons_append, List.append_assoc]
    exact (decode_encRm16 rfl rfl).trans (((digitRm16_encRm16 h).trans (if_pos rfl)).trans (withWord_encWord _ rest _))
  case esc op6 m =>
    rewrite [encode, List.cons_append, decode_esc h, BitVec.extractLsb'_append_extractLsb']
    rfl
  case unused op next => exact if_pos h

end Sys2Proof
end

section
/-! SUPPORT. One step from the fetch to the boundary, for an instruction without prefixes. -/

namespace Sys2Proof.Machine

open Laws in
/-- No instruction is longer than the longest (R80), by the shapes of an encoding. -/
theorem length_encode_le (i : Instr) : (encode i).length ≤ maxLength := by
  cases i
  case pushEs | pushCs | pushSs | pushDs | popEs | popSs | popDs | segEs | segCs | segSs | segDs | lock | repne
      | rep | daa | das | aaa | aas | xchgAxCx | xchgAxDx | xchgAxBx | xchgAxSp | xchgAxBp | xchgAxSi | xchgAxDi
      | nop | cbw | cwd | wait | pushf | popf | sahf | lahf | movsb | movsw | cmpsb | cmpsw | stosb | stosw | lodsb
      | lodsw | scasb | scasw | retNear | retFar | int3 | into | iret | xlatb | inAlDx | inAxDx | outDxAl | outDxAx
      | hlt | cmc | clc | stc | cli | sti | cld | std | pushR16 | popR16 | incR16 | decR16 =>
    exact (length_one _).2
  case addAlImm8 | orAlImm8 | adcAlImm8 | sbbAlImm8 | andAlImm8 | subAlImm8 | xorAlImm8 | cmpAlImm8 | jo | jno | jb
      | jnb | je | jne | jbe | jnbe | js | jns | jp | jnp | jl | jnl | jle | jnle | testAlImm8 | int | loopne
      | loope | loop | jcxz | inAlImm8 | inAxImm8 | outImm8Al | outImm8Ax | jmpRel8 | aam | aad | movR8Imm8 | unused =>
    exact (length_two _ _).2
  case addAxImm16 | orAxImm16 | adcAxImm16 | sbbAxImm16 | andAxImm16 | subAxImm16 | xorAxImm16 | cmpAxImm16
      | testAxImm16 | movAlM8 | movAxM16 | movM8Al | movM16Ax | retNearImm16 | retFarImm16 | callRel16 | jmpRel16
      | movR16Imm16 => exact (length_word _ _).2
  case callFar | jmpFar => exact (length_far _ _ _).2
  case addRm8R8 | addR8Rm8 | orRm8R8 | orR8Rm8 | adcRm8R8 | adcR8Rm8 | sbbRm8R8 | sbbR8Rm8 | andRm8R8 | andR8Rm8
      | subRm8R8 | subR8Rm8 | xorRm8R8 | xorR8Rm8 | cmpRm8R8 | cmpR8Rm8 | testRm8R8 | xchgRm8R8 | movRm8R8
      | movR8Rm8 | incRm8 | decRm8 | notRm8 | negRm8 | mulRm8 | imulRm8 | divRm8 | idivRm8 | rolRm8One | rorRm8One
      | rclRm8One | rcrRm8One | salRm8One | shrRm8One | sarRm8One | rolRm8Cl | rorRm8Cl | rclRm8Cl | rcrRm8Cl
      | salRm8Cl | shrRm8Cl | sarRm8Cl => exact (length_operand _ _ (encRm8_length _ _)).2
  case addRm16R16 | addR16Rm16 | orRm16R16 | orR16Rm16 | adcRm16R16 | adcR16Rm16 | sbbRm16R16 | sbbR16Rm16
      | andRm16R16 | andR16Rm16 | subRm16R16 | subR16Rm16 | xorRm16R16 | xorR16Rm16 | cmpRm16R16 | cmpR16Rm16
      | testRm16R16 | xchgRm16R16 | movRm16R16 | movR16Rm16 | pushRm16 | incRm16 | decRm16 | callRm16 | jmpRm16
      | popRm16 | movRm16Sreg | movEsRm16 | movSsRm16 | movDsRm16 | rolRm16One | rorRm16One | rclRm16One
      | rcrRm16One | salRm16One | shrRm16One | sarRm16One | rolRm16Cl | rorRm16Cl | rclRm16Cl | rcrRm16Cl
      | salRm16Cl | shrRm16Cl | sarRm16Cl | esc | notRm16 | negRm16 | mulRm16 | imulRm16 | divRm16 | idivRm16 =>
    exact (length_operand _ _ (encRm16_length _ _)).2
  case lea | les | lds | callM | jmpM => exact (length_operand _ _ (encMem_length _ _)).2
  case addRm8Imm8 | orRm8Imm8 | adcRm8Imm8 | sbbRm8Imm8 | andRm8Imm8 | subRm8Imm8 | xorRm8Imm8 | cmpRm8Imm8
      | testRm8Imm8 | movRm8Imm8 => exact (length_operand_byte _ _ _ (encRm8_length _ _)).2
  case addRm16Imm8 | adcRm16Imm8 | sbbRm16Imm8 | subRm16Imm8 | cmpRm16Imm8 =>
    exact (length_operand_byte _ _ _ (encRm16_length _ _)).2
  case addRm16Imm16 | orRm16Imm16 | adcRm16Imm16 | sbbRm16Imm16 | andRm16Imm16 | subRm16Imm16 | xorRm16Imm16
      | cmpRm16Imm16 | testRm16Imm16 | movRm16Imm16 =>
    exact (length_operand_word _ _ _ (encRm16_length _ _)).2

variable {s : State} {i : Instr}

/-- An instruction that is none of the prefixes, and before which none were collected, runs past its bytes. -/
theorem runInstr_of_bytesAt {n : Nat} (hwf : i.wf = true) (hi : i.isPrefix = false) (hp : s.pfx = Prefixes.none)
    (hb : s.bytesAt (encode i)) : runInstr (n + 1) s = exec i (s.past (encode i).length).fetchAhead := by
  have hf : s.fetch = .ok (i, s.past (encode i).length) := fetch_eq hb (length_encode_le i) (decode_encode i hwf)
  simp [runInstr, hf, hi, hp, prefixRefusal, Prefixes.none]

theorem step_of_atFetch (h : s.atFetch) : step s = atBoundary true (runInstr 4 s.begin) := by
  obtain ⟨hh, hp⟩ := h
  simp [step, runStep, hh, hp]

/-- Settles O49: the fetch takes the instruction's bytes, `decode_encode` names it, and without prefixes nothing refuses it. -/
theorem stepRunsInstruction : Obligations.StepRunsInstruction := by
  intro s i hs hwf hi hb
  have hb : s.begin.bytesAt (encode i) := hb
  refine ⟨_, (s.begin.past (encode i).length).fetchAhead.draws, aheadPast_fetchAhead (s := s.begin) hb,
    fun hd => ?_, ?_⟩
  · rw [fetchAhead_of_depth_zero (s := s.begin.past _) hd]; rfl
  · rw [step_of_atFetch hs, runInstr_of_bytesAt (n := 3) hwf hi rfl hb, fetchAhead_eq]; rfl

end Sys2Proof.Machine
end

section
/-! SUPPORT. Physical addresses (20_memory R52), and what memory holds after a store (R51, R56, R73) and after a push (R62, R63). -/

namespace Sys2Proof.Machine

variable {s t : State}

/-! ### Physical addresses -/

/-- Settles O5: the formula is the definition, and a byte read looks at the physical address alone. -/
theorem physicalAddresses : Obligations.PhysicalAddresses := by
  refine ⟨fun seg off => ⟨rfl, phys_lt seg off⟩, rfl, rfl, rfl, rfl, fun s g o g' o' h => ?_⟩
  rw [State.memRead8, State.memRead8, h]

/-- The two bytes of a word never share an address, not even at the wraps of the segment and of the 2^20 bytes. -/
theorem phys_ne_highAddr (s : State) (g o : Word) : phys g o ≠ s.highAddr g o := by
  have hg := g.isLt
  have ho := o.isLt
  unfold State.highAddr phys
  split
  · rw [BitVec.toNat_add, show (1 : Word).toNat = 1 from rfl]
    omega
  · omega

/-! ### A read after a store -/

theorem loByte_eq_truncate (v : Word) : loByte v = v.truncate 8 := BitVec.eq_of_getLsbD_eq fun k hk => by
  simp [loByte, hk]

theorem hiByte_eq_truncate (v : Word) : hiByte v = (v >>> 8).truncate 8 := BitVec.eq_of_getLsbD_eq fun k hk => by
  simp [hiByte, hk]

theorem declares_of_isRam {a : Nat} (h : s.isRam a) : s.declares a = true := by
  simp [State.declares, show kindAt s.cfg.memMap a = some .ram from h]

theorem put8_mem {a : Nat} (h : s.isRam a) (b : Byte) : (s.put8 a b).mem = s.mem.write a b := by
  simp [State.put8, show kindAt s.cfg.memMap a = some .ram from h]

theorem put8_of_not_isRam {a : Nat} (h : ¬s.isRam a) (b : Byte) : s.put8 a b = s := if_neg h

theorem put8_read (hs : s.memOk) {a : Nat} (h : s.isRam a) (b : Byte) (x : Nat) :
    (s.put8 a b).mem.read x = if x = a then b else s.mem.read x := by
  rw [put8_mem h, Memory.read_write s.mem hs]

/-- A byte store keeps the canonical form, whatever lies at the address. -/
theorem put8_memOk (hs : s.memOk) {a : Nat} (ha : a < 2 ^ 20) (b : Byte) : (s.put8 a b).memOk := by
  unfold State.put8
  split
  · exact Memory.wf_write s.mem hs a b ha
  · exact hs

section WordStore

variable {g o : Word} (hs : s.memOk) (hlo : s.isRam (phys g o)) (hhi : s.isRam (s.highAddr g o))
include hs hlo hhi

theorem storeWord_read (v : Word) (x : Nat) : (s.storeWord g o v).mem.read x =
    if x = s.highAddr g o then hiByte v else if x = phys g o then loByte v else s.mem.read x := by
  have hr : (s.put8 (phys g o) (loByte v)).isRam (s.highAddr g o) := by simpa [State.isRam] using hhi
  rw [State.storeWord, put8_read (put8_memOk hs (phys_lt g o) _) hr, put8_read hs hlo]

theorem storeWord_read_of_ne (v : Word) {x : Nat} (hl : x ≠ phys g o) (hh : x ≠ s.highAddr g o) :
    (s.storeWord g o v).mem.read x = s.mem.read x := by
  rw [storeWord_read hs hlo hhi, if_neg hh, if_neg hl]

theorem storeWord_byteAt (v : Word) : (s.storeWord g o v).byteAt g o = loByte v := by
  rw [State.byteAt, storeWord_read hs hlo hhi, if_neg (phys_ne_highAddr s g o), if_pos rfl]

theorem storeWord_read_highAddr (v : Word) : (s.storeWord g o v).mem.read (s.highAddr g o) = hiByte v := by
  rw [storeWord_read hs hlo hhi, if_pos rfl]

theorem storeWord_wordAt (v : Word) : (s.storeWord g o v).wordAt g o = v := by
  have hh : (s.storeWord g o v).highAddr g o = s.highAddr g o := by simp [State.highAddr]
  rw [State.wordAt, hh, storeWord_byteAt hs hlo hhi, storeWord_read_highAddr hs hlo hhi, wordOf_loByte_hiByte]

theorem storeWord_memRead16 (v : Word) : (s.storeWord g o v).memRead16 g o = .ok v :=
  memRead16_eq_ok.2 ⟨(hasWord_congr (State.storeWord_cfg g o v) g o).2 ⟨declares_of_isRam hlo, declares_of_isRam hhi⟩,
    storeWord_wordAt hs hlo hhi v⟩

end WordStore

/-- Settles O8: the two byte stores go to different addresses, so both read back. -/
theorem wordStores : Obligations.WordStores := by
  intro s g o v hs hlo hhi
  have hw : s.hasWord g o := ⟨declares_of_isRam hlo, declares_of_isRam hhi⟩
  have hb : (s.storeWord g o v).hasByte g o := by simpa [State.hasByte, State.declares] using hw.1
  exact ⟨s.storeWord g o v, memWrite16_ok hw v, storeWord_memRead16 hs hlo hhi v,
    memRead8_eq_ok.2 ⟨hb, (storeWord_byteAt hs hlo hhi v).trans (loByte_eq_truncate v)⟩,
    (storeWord_read_highAddr hs hlo hhi v).trans (hiByte_eq_truncate v), rfl,
    fun a => storeWord_read_of_ne hs hlo hhi v⟩

/-! ### A pop after a push -/

theorem pushAddrs_one (s : State) : s.pushAddrs 1 = s.wordAddrs s.segs.ss (s.regs.sp - 2) := by
  simp [State.pushAddrs]

/-- Settles O10: the word is read where it was stored, and SP comes back. -/
theorem pushThenPop : Obligations.PushThenPop := by
  intro s v hs hlo hhi
  have hw : s.hasWord s.segs.ss (s.regs.sp - 2) := ⟨declares_of_isRam hlo, declares_of_isRam hhi⟩
  have hregs : (s.pushed [v]).regs = { s.regs with sp := s.regs.sp - 2 } := by simp [State.pushed, Regs.set]
  have hread : (s.pushed [v]).memRead16 s.segs.ss (s.regs.sp - 2) = .ok v :=
    storeWord_memRead16 (s := s.setReg16 .sp (s.regs.sp - 2)) hs hlo hhi v
  obtain ⟨hd, hv⟩ := memRead16_eq_ok.1 hread
  refine ⟨s.pushed [v], push16_ok hw, hregs, by simp, by simp, ?_, pop16_eq_ok.2 ⟨?_, ?_⟩, fun a ha => ?_⟩
  · rw [hregs, State.pushed_segs]
    exact hread
  · rw [hregs, State.pushed_segs]
    exact hd
  · rw [hregs, State.pushed_segs, hv, State.setReg16, hregs]
    simp [Regs.set]
  · rw [pushAddrs_one, State.wordAddrs, List.mem_cons, List.mem_singleton, not_or] at ha
    exact storeWord_read_of_ne (s := s.setReg16 .sp (s.regs.sp - 2)) hs hlo hhi v ha.1 ha.2

end Sys2Proof.Machine
end

section
/-! SUPPORT. Where an access to memory that is not declared stops (20_memory R73): the fault of each operation names a byte of the
access. -/

namespace Sys2Proof.Machine

variable {s u : State} {f : Fault}

@[simp] theorem error_map {α β : Type} (e : Fault) (h : α → β) : h <$> (.error e : Res α) = .error e := rfl

theorem bind_eq_error {α β : Type} {x : Res α} {h : α → Res β} :
    (x >>= h) = .error f ↔ x = .error f ∨ ∃ a, x = .ok a ∧ h a = .error f := by
  cases x <;> simp

/-- The fault names one of the addresses, and that address is not declared. -/
def State.stopsAt (s : State) (A : Nat → Prop) (f : Fault) : Prop :=
  ∃ a, A a ∧ s.declares a = false ∧ f = .undeclaredAddress a

theorem State.stopsAt.mono {A B : Nat → Prop} (h : s.stopsAt A f) (hAB : ∀ a, A a → B a) : s.stopsAt B f := by
  obtain ⟨a, ha, hd⟩ := h
  exact ⟨a, hAB a ha, hd⟩

theorem stopsAt_congr {A : Nat → Prop} (hc : u.cfg = s.cfg) : u.stopsAt A f ↔ s.stopsAt A f := by
  simp [State.stopsAt, State.declares, hc]

/-! ### Bytes and words -/

theorem physRead8_eq_error {a : Nat} :
    s.physRead8 a = .error f ↔ s.declares a = false ∧ f = .undeclaredAddress a := by
  unfold State.physRead8
  split
  next hd => simp [hd]
  next hd => simpa [hd] using eq_comm

theorem byte_error {g o : Word} (h : ¬s.hasByte g o) :
    s.memRead8 g o = .error (.undeclaredAddress (phys g o)) ∧
      ∀ v, s.memWrite8 g o v = .error (.undeclaredAddress (phys g o)) := by
  have hd : s.declares (phys g o) = false := by simpa [State.hasByte] using h
  simp [State.memRead8, State.memWrite8, State.physRead8, State.physWrite8, hd]

/-- A read and a write of a word stop at the same byte: the low one if it is not declared, else the high one. -/
theorem word_error {g o : Word} (h : ¬s.hasWord g o) : ∃ a ∈ s.wordAddrs g o, s.declares a = false ∧
    s.memRead16 g o = .error (.undeclaredAddress a) ∧ ∀ v, s.memWrite16 g o v = .error (.undeclaredAddress a) := by
  cases hl : s.declares (phys g o) with
  | false =>
    exact ⟨phys g o, by simp [State.wordAddrs], hl, by simp [State.memRead16, State.physRead8, hl],
      fun v => by simp [State.memWrite16, State.physWrite8, hl]⟩
  | true =>
    have hh : s.declares (s.highAddr g o) = false := by simpa [State.hasWord, hl] using h
    exact ⟨s.highAddr g o, by simp [State.wordAddrs], hh, by simp [State.memRead16, State.physRead8, hl, hh],
      fun v => by simp [State.memWrite16, State.physWrite8, hl, hh]⟩

theorem memRead8_stops {g o : Word} (h : s.memRead8 g o = .error f) : s.stopsAt (· = phys g o) f :=
  ⟨_, rfl, physRead8_eq_error.1 h⟩

theorem memWrite8_stops {g o : Word} {v : Byte} (h : s.memWrite8 g o v = .error f) : s.stopsAt (· = phys g o) f := by
  by_cases hb : s.hasByte g o
  · rw [memWrite8_ok hb] at h
    cases h
  · rw [(byte_error hb).2] at h
    cases h
    exact ⟨_, rfl, by simpa [State.hasByte] using hb, rfl⟩

theorem memRead16_stops {g o : Word} (h : s.memRead16 g o = .error f) : s.stopsAt (· ∈ s.wordAddrs g o) f := by
  by_cases hw : s.hasWord g o
  · rw [memRead16_ok hw] at h
    cases h
  · obtain ⟨a, ha, hd, hr, -⟩ := word_error hw
    rw [hr] at h
    cases h
    exact ⟨a, ha, hd, rfl⟩

theorem memWrite16_stops {g o v : Word} (h : s.memWrite16 g o v = .error f) : s.stopsAt (· ∈ s.wordAddrs g o) f := by
  by_cases hw : s.hasWord g o
  · rw [memWrite16_ok hw] at h
    cases h
  · obtain ⟨a, ha, hd, -, hr⟩ := word_error hw
    rw [hr] at h
    cases h
    exact ⟨a, ha, hd, rfl⟩

/-! ### Operands -/

theorem rm8_error {m : Rm8} (h : ¬s.hasRm8 m) : ∃ a ∈ s.operandAddrs8 m, s.declares a = false ∧
    s.readRm8 m = .error (.undeclaredAddress a) ∧ ∀ v, s.writeRm8 m v = .error (.undeclaredAddress a) := by
  cases m with
  | reg r => exact absurd trivial h
  | mem m => exact ⟨_, List.mem_singleton_self _, by simpa [State.hasRm8, State.hasByte] using h, byte_error h⟩

theorem rm16_error {m : Rm16} (h : ¬s.hasRm16 m) : ∃ a ∈ s.operandAddrs16 m, s.declares a = false ∧
    s.readRm16 m = .error (.undeclaredAddress a) ∧ ∀ v, s.writeRm16 m v = .error (.undeclaredAddress a) := by
  cases m with
  | reg r => exact absurd trivial h
  | mem m => exact word_error h

/-! ### The stack and the entry of an interrupt -/

theorem push16_error (h : ¬s.hasWord s.segs.ss (s.regs.sp - 2)) : ∃ a ∈ s.wordAddrs s.segs.ss (s.regs.sp - 2),
    s.declares a = false ∧ ∀ v, s.push16 v = .error (.undeclaredAddress a) := by
  obtain ⟨a, ha, hd, -, hw⟩ := word_error (s := s.setReg16 .sp (s.regs.sp - 2)) h
  exact ⟨a, ha, hd, hw⟩

theorem pop16_error (h : ¬s.hasWord s.segs.ss s.regs.sp) : ∃ a ∈ s.wordAddrs s.segs.ss s.regs.sp,
    s.declares a = false ∧ s.pop16 = .error (.undeclaredAddress a) := by
  obtain ⟨a, ha, hd, hr, -⟩ := word_error h
  exact ⟨a, ha, hd, by simp [State.pop16, hr]⟩

/-- A push after others stops inside the bytes that all of them store to. -/
theorem push16_stops {vs : List Word} {v : Word} {n : Nat} (hn : vs.length < n)
    (h : (s.pushed vs).push16 v = .error f) : s.stopsAt (· ∈ s.pushAddrs n) f := by
  have hw : (s.pushed vs).stopsAt (· ∈ (s.pushed vs).wordAddrs s.segs.ss ((s.pushed vs).regs.sp - 2)) f := by
    have hw := memWrite16_stops (s := (s.pushed vs).setReg16 .sp ((s.pushed vs).regs.sp - 2)) h
    rwa [State.setReg16_segs, State.pushed_segs] at hw
  have hsp : (s.pushed vs).regs.sp - 2 = s.regs.sp - 2 * BitVec.ofNat 16 (vs.length + 1) := by
    rw [pushed_sp, BitVec.ofNat_add]
    simp only [Regs.set]
    bv_omega
  rw [stopsAt_congr (State.pushed_cfg vs), hsp] at hw
  refine hw.mono fun a ha => List.mem_flatMap.2 ⟨vs.length, List.mem_range.2 hn, ?_⟩
  simpa [State.wordAddrs, State.highAddr] using ha

theorem vector_stops {n : Byte} (h : s.vector n = .error f) :
    s.stopsAt (fun a => 4 * n.toNat ≤ a ∧ a < 4 * n.toNat + 4) f := by
  have hk : ∀ k, k < 4 → s.physRead8 (4 * n.toNat + k) = .error f →
      s.stopsAt (fun a => 4 * n.toNat ≤ a ∧ a < 4 * n.toNat + 4) f :=
    fun k hk h => ⟨_, ⟨by omega, by omega⟩, physRead8_eq_error.1 h⟩
  obtain h | ⟨_, -, h⟩ := bind_eq_error.1 h
  · exact hk 0 (by omega) h
  obtain h | ⟨_, -, h⟩ := bind_eq_error.1 h
  · exact hk 1 (by omega) h
  obtain h | ⟨_, -, h⟩ := bind_eq_error.1 h
  · exact hk 2 (by omega) h
  obtain h | ⟨_, -, h⟩ := bind_eq_error.1 h
  · exact hk 3 (by omega) h
  · cases h

/-- An entry stops at a byte of the three words it pushes, or at a byte of the vector (R330). -/
theorem interrupt_stops {n : Byte} {c i : Word} (h : s.interrupt n c i = .error f) :
    s.stopsAt (fun a => a ∈ s.pushAddrs 3 ∨ 4 * n.toNat ≤ a ∧ a < 4 * n.toNat + 4) f := by
  obtain h | ⟨u, hu, h⟩ := bind_eq_error.1 h
  · exact (push16_stops (vs := []) (by simp) h).mono fun _ => .inl
  obtain ⟨-, rfl⟩ := push16_eq_ok.1 hu
  obtain h | ⟨u, hu, h⟩ := bind_eq_error.1 h
  · exact (push16_stops (by simp) h).mono fun _ => .inl
  obtain ⟨-, rfl⟩ := push16_eq_ok.1 hu
  rw [← pushed_append] at h
  obtain h | ⟨u, hu, h⟩ := bind_eq_error.1 h
  · exact (push16_stops (by simp) h).mono fun _ => .inl
  obtain ⟨-, rfl⟩ := push16_eq_ok.1 hu
  obtain h | ⟨u, hu, h⟩ := bind_eq_error.1 h
  · exact ((stopsAt_congr (by simp)).1 (vector_stops h)).mono fun _ => .inr
  · cases h

theorem wordAddrs_lt (s : State) (g o : Word) : ∀ a ∈ s.wordAddrs g o, a < 2 ^ 20 := by
  simpa [State.wordAddrs] using And.intro (phys_lt g o) (highAddr_lt s g o)

theorem pushAddrs_lt (s : State) (n : Nat) : ∀ a ∈ s.pushAddrs n, a < 2 ^ 20 := by
  intro a ha
  obtain ⟨k, -, hk⟩ := List.mem_flatMap.1 ha
  exact wordAddrs_lt s _ _ a hk

end Sys2Proof.Machine
end

section
/-! SUPPORT. What every instruction does to memory and how it can stop, in one pass over the dispatch: memory changes at RAM only and
stays canonical (20_memory R50, R73), a fault names an address that is not declared (R73), and the only refusals are those of
30_encoding R86 and R103. -/

namespace Sys2Proof.Machine

variable {i : Instr} {s t u : State}

/-! ### Memory kept but for RAM -/

/-- From `s` to `t` the parameters stay, the canonical form stays, and no byte that is not RAM changes. -/
structure KeepsMemory (s t : State) : Prop where
  cfg : t.cfg = s.cfg
  memOk : s.memOk → t.memOk
  read : s.memOk → ∀ a, ¬s.isRam a → t.mem.read a = s.mem.read a

/-- An operation that writes no memory keeps it. -/
theorem KeepsMemory.of_eq (hm : t.mem = s.mem) (hc : t.cfg = s.cfg) : KeepsMemory s t where
  cfg := hc
  memOk h := by rwa [State.memOk, hm]
  read _ a _ := by rw [hm]

theorem KeepsMemory.refl (s : State) : KeepsMemory s s := .of_eq rfl rfl

theorem isRam_congr (hc : u.cfg = s.cfg) (a : Nat) : u.isRam a ↔ s.isRam a := by simp [State.isRam, hc]

theorem KeepsMemory.trans (h : KeepsMemory s u) (k : KeepsMemory u t) : KeepsMemory s t where
  cfg := k.cfg.trans h.cfg
  memOk hs := k.memOk (h.memOk hs)
  read hs a ha := (k.read (h.memOk hs) a (mt (isRam_congr h.cfg a).1 ha)).trans (h.read hs a ha)

/-- After more that writes no memory. -/
theorem KeepsMemory.then_eq (h : KeepsMemory s u) (hm : t.mem = u.mem) (hc : t.cfg = u.cfg) : KeepsMemory s t :=
  h.trans (.of_eq hm hc)

theorem keepsMemory_put8 (s : State) {a : Nat} (ha : a < 2 ^ 20) (b : Byte) : KeepsMemory s (s.put8 a b) where
  cfg := State.put8_cfg s a b
  memOk hs := put8_memOk hs ha b
  read hs x hx := by
    by_cases hr : s.isRam a
    · have hne : x ≠ a := fun e => hx (e ▸ hr)
      rw [put8_read hs hr, if_neg hne]
    · rw [put8_of_not_isRam hr]

theorem KeepsMemory.storeByte (h : KeepsMemory s u) (g o : Word) (v : Byte) : KeepsMemory s (u.storeByte g o v) :=
  h.trans (keepsMemory_put8 u (phys_lt g o) v)

theorem KeepsMemory.storeWord (h : KeepsMemory s u) (g o v : Word) : KeepsMemory s (u.storeWord g o v) :=
  (h.trans (keepsMemory_put8 u (phys_lt g o) _)).trans (keepsMemory_put8 _ (highAddr_lt u g o) _)

theorem KeepsMemory.pushed (h : KeepsMemory s u) (vs : List Word) : KeepsMemory s (u.pushed vs) := by
  induction vs generalizing u with
  | nil => exact h
  | cons v vs ih => exact ih ((h.then_eq (State.setReg16_mem u .sp _) (State.setReg16_cfg u .sp _)).storeWord _ _ v)

/-! ### What an operation may answer -/

/-- The operation answers a value with `P`, or stops at an address that `s` does not declare. -/
def Answers {α : Type} (s : State) (P : α → Prop) : Res α → Prop
  | .ok a => P a
  | .error f => s.stopsAt (· < 2 ^ 20) f

section Rules

variable {α β : Type} {P : α → Prop} {Q : β → Prop} {x : Res α}

theorem Answers.intro (hok : ∀ a, x = .ok a → P a) (herr : ∀ f, x = .error f → s.stopsAt (· < 2 ^ 20) f) :
    Answers s P x := by
  cases x with
  | ok a => exact hok a rfl
  | error f => exact herr f rfl

theorem Answers.bind {f : α → Res β} (hx : Answers s P x) (hf : ∀ a, P a → Answers s Q (f a)) : Answers s Q (x >>= f) := by
  cases x with
  | ok a => exact hf a hx
  | error e => exact hx

theorem Answers.map {f : α → β} (hx : Answers s P x) (hf : ∀ a, P a → Q (f a)) : Answers s Q (f <$> x) := by
  cases x with
  | ok a => exact hf a hx
  | error e => exact hx

/-- A stop after memory was kept is a stop of the start: the map of the platform is the same. -/
theorem KeepsMemory.stopsAt {A : Nat → Prop} {f : Fault} (h : KeepsMemory s u) (hf : u.stopsAt A f)
    (hA : ∀ a, A a → a < 2 ^ 20) : s.stopsAt (· < 2 ^ 20) f :=
  ((stopsAt_congr h.cfg).1 hf).mono hA

theorem memRead8_answers (h : KeepsMemory s u) (g o : Word) : Answers s (fun _ => True) (u.memRead8 g o) :=
  .intro (fun _ _ => trivial) fun _ hf => h.stopsAt (memRead8_stops hf) fun _ e => e ▸ phys_lt g o

theorem memRead16_answers (h : KeepsMemory s u) (g o : Word) : Answers s (fun _ => True) (u.memRead16 g o) :=
  .intro (fun _ _ => trivial) fun _ hf => h.stopsAt (memRead16_stops hf) (wordAddrs_lt u g o)

theorem memWrite8_answers (h : KeepsMemory s u) (g o : Word) (v : Byte) :
    Answers s (KeepsMemory s) (u.memWrite8 g o v) :=
  .intro (fun _ ht => (memWrite8_eq_ok.1 ht).2 ▸ h.storeByte g o v) fun _ hf =>
    h.stopsAt (memWrite8_stops hf) fun _ e => e ▸ phys_lt g o

theorem memWrite16_answers (h : KeepsMemory s u) (g o v : Word) : Answers s (KeepsMemory s) (u.memWrite16 g o v) :=
  .intro (fun _ ht => (memWrite16_eq_ok.1 ht).2 ▸ h.storeWord g o v) fun _ hf =>
    h.stopsAt (memWrite16_stops hf) (wordAddrs_lt u g o)

end Rules

/-! ### Operands, the stack, the entry of an interrupt and the return from it -/

theorem readRm8_answers (h : KeepsMemory s u) (m : Rm8) : Answers s (fun _ => True) (u.readRm8 m) := by
  cases m with
  | reg r => exact trivial
  | mem m => exact memRead8_answers h _ _

theorem readRm16_answers (h : KeepsMemory s u) (m : Rm16) : Answers s (fun _ => True) (u.readRm16 m) := by
  cases m with
  | reg r => exact trivial
  | mem m => exact memRead16_answers h _ _

theorem writeRm8_answers (h : KeepsMemory s u) (d : Rm8) (v : Byte) : Answers s (KeepsMemory s) (u.writeRm8 d v) := by
  cases d with
  | reg r => exact h.then_eq rfl rfl
  | mem m => exact memWrite8_answers h _ _ v

theorem writeRm16_answers (h : KeepsMemory s u) (d : Rm16) (v : Word) : Answers s (KeepsMemory s) (u.writeRm16 d v) := by
  cases d with
  | reg r => exact h.then_eq rfl rfl
  | mem m => exact memWrite16_answers h _ _ v

theorem readFar_answers (h : KeepsMemory s u) (m : MemOp) : Answers s (fun _ => True) (u.readFar m) :=
  (memRead16_answers h _ _).bind fun _ _ => (memRead16_answers h _ _).bind fun _ _ => trivial

theorem push16_answers (h : KeepsMemory s u) (v : Word) : Answers s (KeepsMemory s) (u.push16 v) :=
  memWrite16_answers (h.then_eq (State.setReg16_mem u .sp _) (State.setReg16_cfg u .sp _)) _ _ v

theorem pop16_answers (h : KeepsMemory s u) : Answers s (fun p => KeepsMemory s p.2) u.pop16 :=
  (memRead16_answers h _ _).bind fun _ _ => h.then_eq rfl rfl

theorem entered_mem (s : State) (n : Byte) (c o : Word) :
    (s.entered n c o).mem = (s.pushed [s.flags.toWord, c, o]).mem := by
  simp only [State.entered]

theorem entered_cfg (s : State) (n : Byte) (c o : Word) :
    (s.entered n c o).cfg = (s.pushed [s.flags.toWord, c, o]).cfg := by
  simp only [State.entered]

theorem entered_ahead (s : State) (n : Byte) (c o : Word) : (s.entered n c o).ahead = [] := by
  simp only [State.entered]

theorem KeepsMemory.entered (h : KeepsMemory s u) (n : Byte) (c o : Word) : KeepsMemory s (u.entered n c o) :=
  (h.pushed _).then_eq (entered_mem u n c o) (entered_cfg u n c o)

theorem interrupt_answers (h : KeepsMemory s u) (n : Byte) (c o : Word) :
    Answers s (KeepsMemory s) (u.interrupt n c o) := by
  refine .intro (fun _ ht => (interrupt_eq_ok.1 ht).2 ▸ h.entered n c o) fun f hf => h.stopsAt (interrupt_stops hf) ?_
  rintro a (ha | ⟨-, ha⟩)
  · exact pushAddrs_lt u 3 a ha
  · have hn := n.isLt
    omega

theorem interruptReturn_answers (s : State) : Answers s (KeepsMemory s) s.interruptReturn :=
  (pop16_answers (.refl s)).bind fun _ h => (pop16_answers h).bind fun _ h => (pop16_answers h).bind fun _ h =>
    h.then_eq rfl rfl

/-! ### String elements and their repetition -/

/-- One element, from any state that kept memory. -/
def ElementAnswers (el : State → Res State) : Prop := ∀ s u, KeepsMemory s u → Answers s (KeepsMemory s) (el u)

theorem movs8_answers : ElementAnswers movs8 := fun _ _ h =>
  (memRead8_answers h _ _).bind fun _ _ => (memWrite8_answers h _ _ _).bind fun _ h => h.then_eq rfl rfl

theorem movs16_answers : ElementAnswers movs16 := fun _ _ h =>
  (memRead16_answers h _ _).bind fun _ _ => (memWrite16_answers h _ _ _).bind fun _ h => h.then_eq rfl rfl

theorem cmps8_answers : ElementAnswers cmps8 := fun _ _ h =>
  (memRead8_answers h _ _).bind fun _ _ => (memRead8_answers h _ _).bind fun _ _ => h.then_eq rfl rfl

theorem cmps16_answers : ElementAnswers cmps16 := fun _ _ h =>
  (memRead16_answers h _ _).bind fun _ _ => (memRead16_answers h _ _).bind fun _ _ => h.then_eq rfl rfl

theorem scas8_answers : ElementAnswers scas8 := fun _ _ h => (memRead8_answers h _ _).bind fun _ _ => h.then_eq rfl rfl

theorem scas16_answers : ElementAnswers scas16 := fun _ _ h => (memRead16_answers h _ _).bind fun _ _ => h.then_eq rfl rfl

theorem lods8_answers : ElementAnswers lods8 := fun _ _ h => (memRead8_answers h _ _).bind fun _ _ => h.then_eq rfl rfl

theorem lods16_answers : ElementAnswers lods16 := fun _ _ h => (memRead16_answers h _ _).bind fun _ _ => h.then_eq rfl rfl

theorem stos8_answers : ElementAnswers stos8 := fun _ _ h =>
  (memWrite8_answers h _ _ _).bind fun _ h => h.then_eq rfl rfl

theorem stos16_answers : ElementAnswers stos16 := fun _ _ h =>
  (memWrite16_answers h _ _ _).bind fun _ h => h.then_eq rfl rfl

theorem repOnce_answers {el : State → Res State} (hel : ElementAnswers el) : ElementAnswers (repOnce el) :=
  fun s u h => (hel s u h).bind fun _ h => h.then_eq rfl rfl

theorem repLoop_answers {el : State → Res State} (hel : ElementAnswers el) (cond : Option RepKind) (n : Nat) :
    ElementAnswers (repLoop el cond n) := by
  induction n with
  | zero => exact fun _ _ h => h
  | succ n ih =>
    refine fun s u h => (repOnce_answers hel s u h).bind fun v h => ?_
    split
    · exact h
    · exact ih s v h

theorem repeated_answers {el : State → Res State} (hel : ElementAnswers el) (j : Instr) (cond : Option RepKind) (s : State) :
    Answers s (KeepsMemory s) (repeated j el cond s) := by
  unfold repeated
  split
  · refine (repOnce_answers hel s s (.refl s)).bind fun t h => ?_
    split
    · exact h
    · exact h.then_eq rfl rfl
  · exact repLoop_answers hel cond _ s s (.refl s)

/-! ### Outcomes -/

/-- A next state keeps memory; a fault names an address of the 2^20 that is not declared; a refusal is that of an unused encoding
(R103) or of the second of a group (R86). -/
def Sound (i : Instr) (s : State) : Host.Outcome State Fault Refusal → Prop
  | .next t => KeepsMemory s t
  | .fault f => s.stopsAt (· < 2 ^ 20) f
  | .refused r => (∃ op next, i = .unused op next) ∨ i.isPrefix = true ∧ r = .prefixGroupRepeated

theorem Answers.sound {x : Res State} (h : Answers s (KeepsMemory s) x) : Sound i s (finish x) := by
  cases x <;> exact h

/-- A meaning that reads something, then changes the state by `f`. -/
theorem Answers.bind_sound {α : Type} {P : α → Prop} {x : Res α} {f : α → State} (h : Answers s P x)
    (hf : ∀ a, P a → KeepsMemory s (f a)) : Sound i s (finish (x >>= fun a => pure (f a))) :=
  (h.bind (f := fun a => pure (f a)) hf).sound

theorem Answers.map_sound {α : Type} {P : α → Prop} {x : Res α} {f : α → State} (h : Answers s P x)
    (hf : ∀ a, P a → KeepsMemory s (f a)) : Sound i s (finish (f <$> x)) := (h.map hf).sound

section Shapes

variable (s)

theorem updRm8_sound {op : Alu 8} (hop : ∀ a b, KeepsMemory s (op s a b).2) (d : Rm8) (b : Byte) :
    Sound i s (updRm8 op d b s) :=
  ((readRm8_answers (.refl s) d).bind fun a _ => writeRm8_answers (hop a b) d _).sound

theorem updRm16_sound {op : Alu 16} (hop : ∀ a b, KeepsMemory s (op s a b).2) (d : Rm16) (b : Word) :
    Sound i s (updRm16 op d b s) :=
  ((readRm16_answers (.refl s) d).bind fun a _ => writeRm16_answers (hop a b) d _).sound

theorem updR8_sound {op : Alu 8} (hop : ∀ a b, KeepsMemory s (op s a b).2) (r : Reg8) (m : Rm8) :
    Sound i s (updR8 op r m s) :=
  (readRm8_answers (.refl s) m).bind_sound fun b _ => (hop _ b).then_eq rfl rfl

theorem updR16_sound {op : Alu 16} (hop : ∀ a b, KeepsMemory s (op s a b).2) (r : Reg16) (m : Rm16) :
    Sound i s (updR16 op r m s) :=
  (readRm16_answers (.refl s) m).bind_sound fun b _ => (hop _ b).then_eq rfl rfl

theorem cmpRm8_sound {op : Alu 8} (hop : ∀ a b, KeepsMemory s (op s a b).2) (d : Rm8) (b : Byte) :
    Sound i s (cmpRm8 op d b s) := (readRm8_answers (.refl s) d).bind_sound fun a _ => hop a b

theorem cmpRm16_sound {op : Alu 16} (hop : ∀ a b, KeepsMemory s (op s a b).2) (d : Rm16) (b : Word) :
    Sound i s (cmpRm16 op d b s) := (readRm16_answers (.refl s) d).bind_sound fun a _ => hop a b

theorem cmpR8_sound {op : Alu 8} (hop : ∀ a b, KeepsMemory s (op s a b).2) (r : Reg8) (m : Rm8) :
    Sound i s (cmpR8 op r m s) := (readRm8_answers (.refl s) m).bind_sound fun b _ => hop _ b

theorem cmpR16_sound {op : Alu 16} (hop : ∀ a b, KeepsMemory s (op s a b).2) (r : Reg16) (m : Rm16) :
    Sound i s (cmpR16 op r m s) := (readRm16_answers (.refl s) m).bind_sound fun b _ => hop _ b

theorem unRm8_sound {f : Una 8} (hf : ∀ a, KeepsMemory s (f s a).2) (d : Rm8) : Sound i s (unRm8 f d s) :=
  ((readRm8_answers (.refl s) d).bind fun a _ => writeRm8_answers (hf a) d _).sound

theorem unRm16_sound {f : Una 16} (hf : ∀ a, KeepsMemory s (f s a).2) (d : Rm16) : Sound i s (unRm16 f d s) :=
  ((readRm16_answers (.refl s) d).bind fun a _ => writeRm16_answers (hf a) d _).sound

theorem sarCl_keepsMemory {n : Nat} (x : BitVec n) : KeepsMemory s (sarCl s x).2 := by
  unfold sarCl
  split <;> exact .of_eq rfl rfl

theorem salCl_keepsMemory {n : Nat} (x : BitVec n) : KeepsMemory s (salCl s x).2 := by
  unfold salCl
  split <;> exact .of_eq rfl rfl

theorem divideError_answers : Answers s (KeepsMemory s) s.divideError := interrupt_answers (.refl s) _ _ _

theorem pushOperand_answers (m : Rm16) : Answers s (fun _ => True) (s.pushOperand m) := by
  unfold State.pushOperand
  split
  · exact trivial
  · exact readRm16_answers (.refl s) m

theorem pushRm16_sound (m : Rm16) : Sound i s (pushRm16 m s) :=
  ((pushOperand_answers s m).bind fun v _ => push16_answers (.refl s) v).sound

theorem popSreg_sound (q : SReg) : Sound i s (popSreg q s) :=
  (pop16_answers (.refl s)).bind_sound fun _ h => h.then_eq rfl rfl

theorem popRm16_sound (d : Rm16) : Sound i s (popRm16 d s) :=
  ((pop16_answers (.refl s)).bind fun _ h => writeRm16_answers h d _).sound

theorem execXchgRm8R8_sound (m : Rm8) (r : Reg8) : Sound i s (execXchgRm8R8 m r s) :=
  Answers.sound <| (readRm8_answers (.refl s) m).bind fun _ _ => (writeRm8_answers (.refl s) m _).bind fun _ h =>
    h.then_eq rfl rfl

theorem execXchgRm16R16_sound (m : Rm16) (r : Reg16) : Sound i s (execXchgRm16R16 m r s) :=
  Answers.sound <| (readRm16_answers (.refl s) m).bind fun _ _ => (writeRm16_answers (.refl s) m _).bind fun _ h =>
    h.then_eq rfl rfl

theorem loadFar_sound (q : SReg) (r : Reg16) (m : MemOp) : Sound i s (loadFar q r m s) :=
  (readFar_answers (.refl s) m).bind_sound fun _ _ => .of_eq rfl rfl

/-- A port read keeps memory, whether the environment answers or a free value is drawn. -/
theorem takeReply_keepsMemory : KeepsMemory s s.takeReply.2 := by
  obtain ⟨v, ws, -, h⟩ | ⟨-, h⟩ := takeReply_cases s <;> rw [h] <;> exact .of_eq rfl rfl

theorem inAl_sound (port : Word) : Sound i s (inAl port s) := (takeReply_keepsMemory s).then_eq rfl rfl

theorem inAx_sound (port : Word) : Sound i s (inAx port s) := (takeReply_keepsMemory s).then_eq rfl rfl

theorem jumpIf_sound (c : Bool) (d : Byte) : Sound i s (jumpIf c d s) := by
  cases c <;> exact .of_eq rfl rfl

theorem loopIf_sound (c : Bool) (d : Byte) : Sound i s (loopIf c d s) := by
  unfold loopIf Sound
  dsimp only
  split <;> exact .of_eq rfl rfl

theorem callNear_sound (v : Word) : Sound i s (callNear v s) :=
  (push16_answers (.refl s) _).bind_sound fun _ h => h.then_eq rfl rfl

theorem callFarTo_sound (g o : Word) : Sound i s (callFarTo g o s) :=
  Answers.sound <| (push16_answers (.refl s) _).bind fun _ h => (push16_answers h _).bind fun _ h => h.then_eq rfl rfl

theorem execCallRm16_sound (m : Rm16) : Sound i s (execCallRm16 m s) := by
  have h := readRm16_answers (.refl s) m
  unfold execCallRm16
  split
  · exact callNear_sound s _
  next hf => rwa [hf] at h

theorem execCallM_sound (m : MemOp) : Sound i s (execCallM m s) := by
  have h := readFar_answers (.refl s) m
  unfold execCallM
  split
  · exact callFarTo_sound s _ _
  next hf => rwa [hf] at h

theorem retNear_sound (v : Word) : Sound i s (retNear v s) :=
  (pop16_answers (.refl s)).bind_sound fun _ h => h.then_eq rfl rfl

theorem retFar_sound (v : Word) : Sound i s (retFar v s) :=
  Answers.sound <| (pop16_answers (.refl s)).bind fun _ h => (pop16_answers h).bind fun _ h => h.then_eq rfl rfl

theorem execInto_sound : Sound i s (execInto s) := by
  unfold execInto
  split
  · exact (interrupt_answers (.refl s) _ _ _).sound
  · exact .refl s

theorem plainRep_sound {el : State → Res State} (hel : ElementAnswers el) (j : Instr) : Sound i s (plainRep j el s) := by
  unfold plainRep
  split
  · exact (hel s s (.refl s)).sound
  · exact (repeated_answers hel j _ s).sound

theorem condRep_sound {el : State → Res State} (hel : ElementAnswers el) (j : Instr) : Sound i s (condRep j el s) := by
  unfold condRep
  split
  · exact (hel s s (.refl s)).sound
  · exact (repeated_answers hel j _ s).sound

/-- What stands before an instruction is recorded, unless its group already was (R86). -/
theorem recorded_sound {c : Prop} [Decidable c] (hi : i.isPrefix = true) (h : KeepsMemory s t) :
    Sound i s (if c then .refused .prefixGroupRepeated else .next t) := by
  split
  · exact .inr ⟨hi, rfl⟩
  · exact h

theorem execWait_sound : Sound i s (execWait s) := by
  unfold execWait
  split <;> exact .of_eq rfl rfl

end Shapes

/-! ### Every instruction -/

/-- Whatever instruction runs, its outcome is sound: one line for the instructions of a shape. -/
theorem exec_sound (i : Instr) (s : State) : Sound i s (exec i s) := by
  cases i <;> dsimp only [exec]
  case addRm8R8 | addRm8Imm8 | addAlImm8 | adcRm8R8 | adcRm8Imm8 | adcAlImm8 | subRm8R8 | subRm8Imm8 | subAlImm8 | sbbRm8R8
      | sbbRm8Imm8 | sbbAlImm8 | orRm8R8 | orRm8Imm8 | orAlImm8 | andRm8R8 | andRm8Imm8 | andAlImm8 | xorRm8R8 | xorRm8Imm8
      | xorAlImm8 => exact updRm8_sound s (fun _ _ => .of_eq rfl rfl) _ _
  case addRm16R16 | addRm16Imm16 | addAxImm16 | addRm16Imm8 | adcRm16R16 | adcRm16Imm16 | adcAxImm16 | adcRm16Imm8
      | subRm16R16 | subRm16Imm16 | subAxImm16 | subRm16Imm8 | sbbRm16R16 | sbbRm16Imm16 | sbbAxImm16 | sbbRm16Imm8
      | orRm16R16 | orRm16Imm16 | orAxImm16 | andRm16R16 | andRm16Imm16 | andAxImm16 | xorRm16R16 | xorRm16Imm16
      | xorAxImm16 => exact updRm16_sound s (fun _ _ => .of_eq rfl rfl) _ _
  case addR8Rm8 | adcR8Rm8 | subR8Rm8 | sbbR8Rm8 | orR8Rm8 | andR8Rm8 | xorR8Rm8 =>
    exact updR8_sound s (fun _ _ => .of_eq rfl rfl) _ _
  case addR16Rm16 | adcR16Rm16 | subR16Rm16 | sbbR16Rm16 | orR16Rm16 | andR16Rm16 | xorR16Rm16 =>
    exact updR16_sound s (fun _ _ => .of_eq rfl rfl) _ _
  case cmpRm8R8 | cmpRm8Imm8 | cmpAlImm8 | testRm8R8 | testRm8Imm8 | testAlImm8 =>
    exact cmpRm8_sound s (fun _ _ => .of_eq rfl rfl) _ _
  case cmpRm16R16 | cmpRm16Imm16 | cmpAxImm16 | cmpRm16Imm8 | testRm16R16 | testRm16Imm16 | testAxImm16 =>
    exact cmpRm16_sound s (fun _ _ => .of_eq rfl rfl) _ _
  case cmpR8Rm8 => exact cmpR8_sound s (fun _ _ => .of_eq rfl rfl) _ _
  case cmpR16Rm16 => exact cmpR16_sound s (fun _ _ => .of_eq rfl rfl) _ _
  case incRm8 | decRm8 | negRm8 | notRm8 | rolRm8One | rorRm8One | rclRm8One | rcrRm8One | salRm8One | shrRm8One | sarRm8One
      | rolRm8Cl | rorRm8Cl | rclRm8Cl | rcrRm8Cl | shrRm8Cl => exact unRm8_sound s (fun _ => .of_eq rfl rfl) _
  case incR16 | incRm16 | decR16 | decRm16 | negRm16 | notRm16 | rolRm16One | rorRm16One | rclRm16One | rcrRm16One
      | salRm16One | shrRm16One | sarRm16One | rolRm16Cl | rorRm16Cl | rclRm16Cl | rcrRm16Cl | shrRm16Cl =>
    exact unRm16_sound s (fun _ => .of_eq rfl rfl) _
  case sarRm8Cl => exact unRm8_sound s (sarCl_keepsMemory s) _
  case sarRm16Cl => exact unRm16_sound s (sarCl_keepsMemory s) _
  case salRm8Cl => exact unRm8_sound s (salCl_keepsMemory s) _
  case salRm16Cl => exact unRm16_sound s (salCl_keepsMemory s) _
  case mulRm8 | imulRm8 => exact (readRm8_answers (.refl s) _).bind_sound fun _ _ => .of_eq rfl rfl
  case mulRm16 | imulRm16 => exact (readRm16_answers (.refl s) _).bind_sound fun _ _ => .of_eq rfl rfl
  case divRm8 | idivRm8 =>
    refine Answers.sound <| (readRm8_answers (.refl s) _).bind fun d _ => ?_
    split
    · exact divideError_answers s
    · exact .of_eq rfl rfl
  case divRm16 | idivRm16 =>
    refine Answers.sound <| (readRm16_answers (.refl s) _).bind fun d _ => ?_
    split
    · exact divideError_answers s
    · exact .of_eq rfl rfl
  case daa | das | aaa | aas | aam | aad | movR8Imm8 | movR16Imm16 | lea | cbw | cwd | lahf | sahf | xchgAxCx | xchgAxDx
      | xchgAxBx | xchgAxSp | xchgAxBp | xchgAxSi | xchgAxDi | outImm8Al | outImm8Ax | outDxAl | outDxAx | esc | jmpRel8
      | jmpRel16 | jmpFar | nop | hlt | cmc | clc | stc | cld | std | cli | sti => exact .of_eq rfl rfl
  case pushEs | pushCs | pushSs | pushDs | pushf => exact (push16_answers (.refl s) _).sound
  case pushR16 | pushRm16 => exact pushRm16_sound s _
  case popEs | popSs | popDs => exact popSreg_sound s _
  case popR16 | popRm16 => exact popRm16_sound s _
  case popf => exact (pop16_answers (.refl s)).bind_sound fun _ h => h.then_eq rfl rfl
  case xchgRm8R8 => exact execXchgRm8R8_sound s _ _
  case xchgRm16R16 => exact execXchgRm16R16_sound s _ _
  case movRm8R8 | movRm8Imm8 => exact (writeRm8_answers (.refl s) _ _).sound
  case movRm16R16 | movRm16Imm16 | movRm16Sreg => exact (writeRm16_answers (.refl s) _ _).sound
  case movR8Rm8 => exact (readRm8_answers (.refl s) _).map_sound fun _ _ => .of_eq rfl rfl
  case movR16Rm16 | movEsRm16 | movSsRm16 | movDsRm16 | jmpRm16 =>
    exact (readRm16_answers (.refl s) _).map_sound fun _ _ => .of_eq rfl rfl
  case movAlM8 | xlatb => exact (memRead8_answers (.refl s) _ _).map_sound fun _ _ => .of_eq rfl rfl
  case movAxM16 => exact (memRead16_answers (.refl s) _ _).map_sound fun _ _ => .of_eq rfl rfl
  case movM8Al => exact (memWrite8_answers (.refl s) _ _ _).sound
  case movM16Ax => exact (memWrite16_answers (.refl s) _ _ _).sound
  case les | lds => exact loadFar_sound s _ _ _
  case inAlImm8 | inAlDx => exact inAl_sound s _
  case inAxImm8 | inAxDx => exact inAx_sound s _
  case jo | jno | jb | jnb | je | jne | jbe | jnbe | js | jns | jp | jnp | jl | jnl | jle | jnle | jcxz =>
    exact jumpIf_sound s _ _
  case loopne | loope | loop => exact loopIf_sound s _ _
  case jmpM => exact (readFar_answers (.refl s) _).bind_sound fun _ _ => .of_eq rfl rfl
  case callRel16 => exact callNear_sound s _
  case callFar => exact callFarTo_sound s _ _
  case callRm16 => exact execCallRm16_sound s _
  case callM => exact execCallM_sound s _
  case retNear | retNearImm16 => exact retNear_sound s _
  case retFar | retFarImm16 => exact retFar_sound s _
  case int3 | int => exact (interrupt_answers (.refl s) _ _ _).sound
  case into => exact execInto_sound s
  case iret => exact (interruptReturn_answers s).sound
  case movsb => exact plainRep_sound s movs8_answers _
  case movsw => exact plainRep_sound s movs16_answers _
  case cmpsb => exact condRep_sound s cmps8_answers _
  case cmpsw => exact condRep_sound s cmps16_answers _
  case stosb => exact plainRep_sound s stos8_answers _
  case stosw => exact plainRep_sound s stos16_answers _
  case lodsb => exact plainRep_sound s lods8_answers _
  case lodsw => exact plainRep_sound s lods16_answers _
  case scasb => exact condRep_sound s scas8_answers _
  case scasw => exact condRep_sound s scas16_answers _
  case segEs | segCs | segSs | segDs | rep | repne | lock => exact recorded_sound s rfl (.of_eq rfl rfl)
  case wait => exact execWait_sound s
  case unused => exact .inl ⟨_, _, rfl⟩

end Sys2Proof.Machine
end

section
/-! SUPPORT. Which instructions complete, and which accesses stop (20_memory R57, R73, 60_exceptions R336): from `exec_sound`, and
from the access that an instruction makes first. -/

namespace Sys2Proof.Machine

variable {i : Instr} {s t : State}

/-! ### Completion -/

theorem exec_fault {f : Fault} (h : exec i s = .fault f) : s.stopsAt (· < 2 ^ 20) f := by
  have hs := exec_sound i s
  rwa [h] at hs

theorem exec_refused {r : Refusal} (h : exec i s = .refused r) :
    (∃ op next, i = .unused op next) ∨ i.isPrefix = true ∧ r = .prefixGroupRepeated := by
  have hs := exec_sound i s
  rwa [h] at hs

/-- With every address declared nothing stops. -/
theorem not_stopsAt_of_fullyMapped (h : s.fullyMapped) {f : Fault} : ¬s.stopsAt (· < 2 ^ 20) f := by
  rintro ⟨a, ha, hd, -⟩
  rw [h a ha] at hd
  cases hd

theorem exec_completes (h : s.fullyMapped) (hp : i.isPrefix = false) (hu : ∀ op next, i ≠ .unused op next) :
    ∃ t, exec i s = .next t := by
  cases he : exec i s with
  | next t => exact ⟨t, rfl⟩
  | fault f => exact absurd (exec_fault he) (not_stopsAt_of_fullyMapped h)
  | refused r =>
    obtain ⟨op, next, hi⟩ | ⟨hi, -⟩ := exec_refused he
    · exact absurd hi (hu op next)
    · rw [hp] at hi
      cases hi

/-! ### Accesses that stop -/

/-- MOV and ADD with a byte operand that is not declared stop at it, whether they load or store. -/
theorem rm8_access_stops {m : Rm8} (h : ¬s.hasRm8 m) : ∃ a, a ∈ s.operandAddrs8 m ∧ s.declares a = false ∧
    ∀ r, exec (.movR8Rm8 r m) s = .fault (.undeclaredAddress a) ∧ exec (.movRm8R8 m r) s = .fault (.undeclaredAddress a) ∧
      exec (.addR8Rm8 r m) s = .fault (.undeclaredAddress a) ∧
      exec (.addRm8R8 m r) s = .fault (.undeclaredAddress a) := by
  obtain ⟨a, ha, hd, hr, hw⟩ := rm8_error h
  refine ⟨a, ha, hd, fun r => ⟨?_, ?_, ?_, ?_⟩⟩
  · simp [exec, execMovR8Rm8, hr]
  · simp [exec, execMovRm8R8, hw]
  · simp [exec, execAddR8Rm8, updR8, hr]
  · simp [exec, execAddRm8R8, updRm8, hr]

/-- MOV and ADD with a word operand that is not declared stop at its first byte that is not. -/
theorem rm16_access_stops {m : Rm16} (h : ¬s.hasRm16 m) : ∃ a, a ∈ s.operandAddrs16 m ∧ s.declares a = false ∧
    ∀ r, exec (.movR16Rm16 r m) s = .fault (.undeclaredAddress a) ∧
      exec (.movRm16R16 m r) s = .fault (.undeclaredAddress a) ∧
      exec (.addR16Rm16 r m) s = .fault (.undeclaredAddress a) ∧
      exec (.addRm16R16 m r) s = .fault (.undeclaredAddress a) := by
  obtain ⟨a, ha, hd, hr, hw⟩ := rm16_error h
  refine ⟨a, ha, hd, fun r => ⟨?_, ?_, ?_, ?_⟩⟩
  · simp [exec, execMovR16Rm16, hr]
  · simp [exec, execMovRm16R16, hw]
  · simp [exec, execAddR16Rm16, updR16, hr]
  · simp [exec, execAddRm16R16, updRm16, hr]

theorem canPush_one : s.canPush 1 ↔ s.hasWord s.segs.ss (s.regs.sp - 2) := by
  simp [State.canPush]

theorem canPop_one : s.canPop 1 ↔ s.hasWord s.segs.ss s.regs.sp := by
  simp [State.canPop]

theorem pushOperand_reg (r : Reg16) : ∃ v, s.pushOperand (.reg r) = .ok v := by
  unfold State.pushOperand
  split <;> exact ⟨_, rfl⟩

theorem push_access_stops (h : ¬s.canPush 1) : ∃ a, a ∈ s.pushAddrs 1 ∧ s.declares a = false ∧
    (∀ r, exec (.pushR16 r) s = .fault (.undeclaredAddress a)) ∧ exec .pushf s = .fault (.undeclaredAddress a) := by
  obtain ⟨a, ha, hd, hw⟩ := push16_error (mt canPush_one.2 h)
  refine ⟨a, pushAddrs_one s ▸ ha, hd, fun r => ?_, ?_⟩
  · obtain ⟨v, hv⟩ := pushOperand_reg (s := s) r
    simp [exec, execPushR16, pushRm16, hv, hw]
  · simp [exec, execPushf, hw]

theorem pop_access_stops (h : ¬s.canPop 1) : ∃ a, a ∈ s.wordAddrs s.segs.ss s.regs.sp ∧ s.declares a = false ∧
    (∀ r, exec (.popR16 r) s = .fault (.undeclaredAddress a)) ∧ exec .popf s = .fault (.undeclaredAddress a) := by
  obtain ⟨a, ha, hd, hr⟩ := pop16_error (mt canPop_one.2 h)
  exact ⟨a, ha, hd, fun r => by simp [exec, execPopR16, popRm16, hr], by simp [exec, execPopf, hr]⟩

/-- An operation that needs what is not there stops. -/
theorem exists_error {α : Type} {x : Res α} {p : Prop} (hok : ∀ a, x = .ok a → p) (hp : ¬p) : ∃ f, x = .error f := by
  cases x with
  | ok a => exact absurd (hok a rfl) hp
  | error f => exact ⟨f, rfl⟩

theorem int_access_stops {n : Byte} (h : ¬s.canEnter n) :
    ∃ a, s.declares a = false ∧ exec (.int n) s = .fault (.undeclaredAddress a) ∧
      (a ∈ s.pushAddrs 3 ∨ 4 * n.toNat ≤ a ∧ a < 4 * n.toNat + 4) := by
  obtain ⟨f, hf⟩ := exists_error (fun t ht => (interrupt_eq_ok (c := s.segs.cs) (i := s.ip) (t := t).1 ht).1) h
  obtain ⟨a, ha, hd, rfl⟩ := interrupt_stops hf
  exact ⟨a, hd, finish_eq_fault.2 hf, ha⟩

/-! ### String elements -/

/-- The operation on one element, byte form (R231 to R235). -/
def StrKind.byteElement : StrKind → State → Res State
  | .movs => movs8
  | .cmps => cmps8
  | .scas => scas8
  | .lods => lods8
  | .stos => stos8

/-- The operation on one element, word form (R231 to R235). -/
def StrKind.wordElement : StrKind → State → Res State
  | .movs => movs16
  | .cmps => cmps16
  | .scas => scas16
  | .lods => lods16
  | .stos => stos16

theorem plainRep_of_none {el : State → Res State} (h : s.pfx.rep = none) : plainRep i el s = finish (el s) := by
  simp only [plainRep, h]

theorem condRep_of_none {el : State → Res State} (h : s.pfx.rep = none) : condRep i el s = finish (el s) := by
  simp only [condRep, h]

/-- Without a repeat the byte form is one element. -/
theorem exec_byteForm (k : StrKind) (h : s.pfx.rep = none) : exec k.byteForm s = finish (k.byteElement s) := by
  cases k with
  | movs | lods | stos => exact plainRep_of_none h
  | cmps | scas => exact condRep_of_none h

/-- Without a repeat the word form is one element. -/
theorem exec_wordForm (k : StrKind) (h : s.pfx.rep = none) : exec k.wordForm s = finish (k.wordElement s) := by
  cases k with
  | movs | lods | stos => exact plainRep_of_none h
  | cmps | scas => exact condRep_of_none h

/-- An element that runs has its bytes declared. -/
theorem hasByte_of_byteElement (k : StrKind) (h : k.byteElement s = .ok t) : k.hasByte s := by
  cases k with
  | movs =>
    obtain ⟨v, hv, h⟩ := bind_eq_ok.1 h
    obtain ⟨w, hw, -⟩ := bind_eq_ok.1 h
    exact ⟨fun _ => (memRead8_eq_ok.1 hv).1, fun _ => (memWrite8_eq_ok.1 hw).1⟩
  | cmps =>
    obtain ⟨v, hv, h⟩ := bind_eq_ok.1 h
    obtain ⟨w, hw, -⟩ := bind_eq_ok.1 h
    exact ⟨fun _ => (memRead8_eq_ok.1 hv).1, fun _ => (memRead8_eq_ok.1 hw).1⟩
  | scas =>
    obtain ⟨v, hv, -⟩ := bind_eq_ok.1 h
    exact ⟨nofun, fun _ => (memRead8_eq_ok.1 hv).1⟩
  | lods =>
    obtain ⟨v, hv, -⟩ := bind_eq_ok.1 h
    exact ⟨fun _ => (memRead8_eq_ok.1 hv).1, nofun⟩
  | stos =>
    obtain ⟨w, hw, -⟩ := bind_eq_ok.1 h
    exact ⟨nofun, fun _ => (memWrite8_eq_ok.1 hw).1⟩

/-- An element that runs has its words declared. -/
theorem hasWord_of_wordElement (k : StrKind) (h : k.wordElement s = .ok t) : k.hasWord s := by
  cases k with
  | movs =>
    obtain ⟨v, hv, h⟩ := bind_eq_ok.1 h
    obtain ⟨w, hw, -⟩ := bind_eq_ok.1 h
    exact ⟨fun _ => (memRead16_eq_ok.1 hv).1, fun _ => (memWrite16_eq_ok.1 hw).1⟩
  | cmps =>
    obtain ⟨v, hv, h⟩ := bind_eq_ok.1 h
    obtain ⟨w, hw, -⟩ := bind_eq_ok.1 h
    exact ⟨fun _ => (memRead16_eq_ok.1 hv).1, fun _ => (memRead16_eq_ok.1 hw).1⟩
  | scas =>
    obtain ⟨v, hv, -⟩ := bind_eq_ok.1 h
    exact ⟨nofun, fun _ => (memRead16_eq_ok.1 hv).1⟩
  | lods =>
    obtain ⟨v, hv, -⟩ := bind_eq_ok.1 h
    exact ⟨fun _ => (memRead16_eq_ok.1 hv).1, nofun⟩
  | stos =>
    obtain ⟨w, hw, -⟩ := bind_eq_ok.1 h
    exact ⟨nofun, fun _ => (memWrite16_eq_ok.1 hw).1⟩

/-- A meaning that is one operation stops where that operation needs what is not there. -/
theorem finish_access_stops {x : Res State} {p : Prop} (hx : exec i s = finish x) (hok : ∀ t, x = .ok t → p) (hp : ¬p) :
    ∃ a, s.declares a = false ∧ exec i s = .fault (.undeclaredAddress a) := by
  obtain ⟨f, hf⟩ := exists_error hok hp
  have hs : exec i s = .fault f := hx.trans (finish_eq_fault.2 hf)
  obtain ⟨a, -, hd, rfl⟩ := exec_fault hs
  exact ⟨a, hd, hs⟩

theorem string_access_stops (k : StrKind) (s : State) (h : s.pfx.rep = none) :
    (¬k.hasByte s → ∃ a, s.declares a = false ∧ exec k.byteForm s = .fault (.undeclaredAddress a)) ∧
    (¬k.hasWord s → ∃ a, s.declares a = false ∧ exec k.wordForm s = .fault (.undeclaredAddress a)) :=
  ⟨finish_access_stops (exec_byteForm k h) fun _ => hasByte_of_byteElement k,
    finish_access_stops (exec_wordForm k h) fun _ => hasWord_of_wordElement k⟩

/-! ### The fetch -/

/-- With nothing fetched ahead, the fetch of an instruction whose first byte is not declared stops at that byte. -/
theorem fetch_stops (ha : s.ahead = []) (hd : s.declares (phys s.segs.cs s.ip) = false) :
    s.fetch = .error (.undeclaredAddress (phys s.segs.cs s.ip)) := by
  have hb : s.beyond maxLength = [] := by simp [State.beyond, maxLength, State.window, ha, hd]
  simp [State.fetch, ha, hb, decode]

theorem step_fetch_stops (h : s.atFetch) (ha : s.ahead = []) (hd : s.declares (phys s.segs.cs s.ip) = false) :
    step s = .fault (.undeclaredAddress (phys s.segs.cs s.ip)) := by
  have hf : s.begin.fetch = .error (.undeclaredAddress (phys s.segs.cs s.ip)) := fetch_stops (s := s.begin) ha hd
  rw [step_of_atFetch h, runInstr, hf]
  rfl

/-- Settles O55: completion and the causes of a stop from `exec_sound`, then one lemma per kind of access. -/
theorem everyInstructionCompletes : Obligations.EveryInstructionCompletes := by
  refine ⟨fun _ _ => exec_completes, fun s i f h => ?_, fun _ _ _ => exec_refused, fun _ _ => rm8_access_stops,
    fun _ _ => rm16_access_stops, fun _ => push_access_stops, fun _ => pop_access_stops, fun _ _ => int_access_stops,
    string_access_stops, fun _ => step_fetch_stops⟩
  obtain ⟨a, -, hd, hf⟩ := exec_fault h
  exact ⟨a, hf, hd⟩

end Sys2Proof.Machine
end

section
/-! SUPPORT. The invariant of a step (20_memory R50, R70, R73): canonical memory, the same parameters, changes at RAM only, and no
more fetched ahead than `PREFETCH_DEPTH`. Each phase of the step keeps it, and it composes. -/

namespace Sys2Proof.Machine

variable {i : Instr} {s t u : State}

/-- Memory is kept but for RAM, and so is the bound on what is fetched ahead. -/
structure KeepsGood (s t : State) : Prop extends KeepsMemory s t where
  ahead : s.ahead.length ≤ s.cfg.prefetchDepth → t.ahead.length ≤ s.cfg.prefetchDepth

theorem KeepsGood.trans (h : KeepsGood s u) (k : KeepsGood u t) : KeepsGood s t where
  toKeepsMemory := h.toKeepsMemory.trans k.toKeepsMemory
  ahead hs := by
    have hu := k.ahead
    rw [h.cfg] at hu
    exact hu (h.ahead hs)

/-- What has been fetched ahead is shorter, and memory is as it was. -/
theorem KeepsGood.of_eq (hm : t.mem = s.mem) (hc : t.cfg = s.cfg) (ha : t.ahead.length ≤ s.ahead.length) :
    KeepsGood s t where
  toKeepsMemory := .of_eq hm hc
  ahead := ha.trans

theorem KeepsGood.refl (s : State) : KeepsGood s s := .of_eq rfl rfl le_rfl

/-! ### Fetching and executing -/

/-- A fetch takes bytes off those fetched ahead. -/
theorem KeepsGood.of_fetch (h : s.fetch = .ok (i, t)) : KeepsGood s t := by
  obtain ⟨n, rfl⟩ := fetch_eq_ok h
  exact .of_eq rfl rfl (by simp)

theorem fetchAhead_ahead_length (s : State) :
    s.fetchAhead.ahead.length ≤ max s.ahead.length s.cfg.prefetchDepth := by
  obtain ⟨n, hn, he⟩ := fetchAhead_ahead s
  have hw := (window_bytes (s := s) (n - s.ahead.length) (s.ip + BitVec.ofNat 16 s.ahead.length)).1
  rw [he, List.length_append, State.beyond]
  omega

theorem keepsGood_fetchAhead (s : State) : KeepsGood s s.fetchAhead where
  toKeepsMemory := .of_eq State.fetchAhead_mem State.fetchAhead_cfg
  ahead hs := (fetchAhead_ahead_length s).trans (max_le hs le_rfl)

/-- An instruction keeps memory by `exec_sound`; what is fetched ahead it keeps or drops, by its frame. -/
theorem KeepsGood.of_exec (h : exec i s = .next t) : KeepsGood s t where
  toKeepsMemory := by
    have hs := exec_sound i s
    rwa [h] at hs
  ahead hs := by
    obtain ha | ⟨ha, -⟩ := (exec_frame h).ahead
    · rwa [ha]
    · simp [ha]

/-- The prefixes and the instruction after them. -/
theorem KeepsGood.of_runInstr {n : Nat} (h : runInstr n s = .next t) : KeepsGood s t := by
  induction n generalizing s with
  | zero => cases h
  | succ n ih =>
    unfold runInstr at h
    split at h
    next => cases h
    next j u hu =>
      have hf := KeepsGood.of_fetch hu
      split at h
      · split at h
        next v hv => exact (hf.trans (.of_exec hv)).trans (ih h)
        next => cases h
        next => cases h
      · split at h
        · cases h
        · exact (hf.trans (keepsGood_fetchAhead u)).trans (.of_exec h)

/-! ### The boundary -/

/-- A change of what the boundary keeps for itself. -/
theorem KeepsGood.then_eq (h : KeepsGood s u) (hm : t.mem = u.mem) (hc : t.cfg = u.cfg) (ha : t.ahead = u.ahead) :
    KeepsGood s t := h.trans (.of_eq hm hc (ha ▸ le_rfl))

/-- An entry keeps memory and drops what was fetched ahead. -/
theorem keepsGood_entered (s : State) (n : Byte) (c o : Word) : KeepsGood s (s.entered n c o) where
  toKeepsMemory := (KeepsMemory.refl s).entered n c o
  ahead _ := by simp [entered_ahead]

theorem KeepsGood.of_interrupt {n : Byte} {c o : Word} (h : s.interrupt n c o = .ok t) : KeepsGood s t :=
  (interrupt_eq_ok.1 h).2 ▸ keepsGood_entered s n c o

theorem KeepsGood.of_enter {n : Byte} (h : s.enter n = .ok t) : KeepsGood s t := by
  obtain ⟨u, hu, h⟩ := bind_eq_ok.1 h
  cases h
  exact (KeepsGood.of_interrupt hu).then_eq rfl rfl rfl

theorem KeepsGood.of_examineNmi {e : Inputs} (h : s.examineNmi e = .ok t) : KeepsGood s t := by
  unfold State.examineNmi at h
  split at h
  · obtain ⟨u, hu, h⟩ := bind_eq_ok.1 h
    cases h
    exact (KeepsGood.of_enter hu).then_eq rfl rfl rfl
  · cases h
    exact .refl s

theorem KeepsGood.of_examineInt {e : Inputs} (h : s.examineInt e = .ok t) : KeepsGood s t := by
  unfold State.examineInt at h
  split at h
  next n _ =>
    split at h
    · exact KeepsGood.trans (u := s.emit (.intAck n)) (.of_eq rfl rfl le_rfl) (.of_enter h)
    · cases h
      exact .refl s
  next =>
    cases h
    exact .refl s

theorem KeepsGood.of_examineTrace (h : s.examineTrace = .ok t) : KeepsGood s t := by
  unfold State.examineTrace at h
  split at h
  · exact .of_enter h
  · cases h
    exact .refl s

theorem keepsGood_clearPrefixes (s : State) : KeepsGood s s.clearPrefixes := by
  unfold State.clearPrefixes
  split <;> exact .of_eq rfl rfl le_rfl

theorem KeepsGood.of_boundary {b : Bool} (h : s.boundary b = .ok t) : KeepsGood s t := by
  refine KeepsGood.trans (u := { s with inputs := s.inputs.tail }) (.of_eq rfl rfl le_rfl) ?_
  unfold State.boundary at h
  dsimp only at h
  split at h
  · cases h
    exact .of_eq rfl rfl (Nat.zero_le _)
  · split at h
    · cases h
      exact keepsGood_clearPrefixes _
    · obtain ⟨u, hu, h⟩ := bind_eq_ok.1 h
      obtain ⟨v, hv, h⟩ := bind_eq_ok.1 h
      have hk := (KeepsGood.of_examineNmi hu).trans (.of_examineInt hv)
      split at h
      · obtain ⟨w, hw, h⟩ := bind_eq_ok.1 h
        cases h
        exact (hk.trans (.of_examineTrace hw)).trans (keepsGood_clearPrefixes w)
      · cases h
        exact hk.trans (keepsGood_clearPrefixes v)

theorem KeepsGood.of_atBoundary {b : Bool} {o : Host.Outcome State Fault Refusal} (h : atBoundary b o = .next t) :
    ∃ u, o = .next u ∧ KeepsGood u t := by
  cases o with
  | next u => exact ⟨u, rfl, .of_boundary (finish_eq_next.1 h)⟩
  | fault f => cases h
  | refused r => cases h

/-! ### The step -/

/-- Halted, in a repetition, at a WAIT or at a fetch: what runs, then the boundary. -/
theorem KeepsGood.of_step (h : step s = .next t) : KeepsGood s t := by
  unfold step runStep at h
  split at h
  · exact .of_boundary (finish_eq_next.1 h)
  · split at h <;> obtain ⟨u, hu, hb⟩ := KeepsGood.of_atBoundary h
    next j _ => exact KeepsGood.trans (u := { s with pause := .none }) (.of_eq rfl rfl le_rfl) (.trans (.of_exec hu) hb)
    next w _ =>
      exact KeepsGood.trans (u := { s with ip := w, pause := .none }) (.of_eq rfl rfl le_rfl) (.trans (.of_exec hu) hb)
    next => exact KeepsGood.trans (u := s.begin) (.of_eq rfl rfl le_rfl) (.trans (.of_runInstr hu) hb)

/-- Settles O56: the fields of the invariant. -/
theorem stepKeepsGoodState : Obligations.StepKeepsGoodState := by
  intro s t hs h
  have hk := KeepsGood.of_step h
  exact ⟨hk.memOk hs, hk.cfg, hk.read hs, hk.ahead⟩

end Sys2Proof.Machine
end

section
/-! SUPPORT. Encoding undoes decoding (30_encoding R88 to R106): what each reader of the decoder answers encodes to the bytes that it
read, then the opcode map row by row; and the statements about the encoding. -/

namespace Sys2Proof

open Machine (bit5_eq_le loByte_wordOf hiByte_wordOf unusedPair_eq_listedR103)

variable {op : Byte} {bs rest tl : List Byte} {n : BitVec 3}

/-! ### Codes and fields back to the values they were read as -/

@[simp] theorem Reg8.code_ofCode (c : BitVec 3) : (Reg8.ofCode c).code = c := by revert c; decide

@[simp] theorem Reg16.code_ofCode (c : BitVec 3) : (Reg16.ofCode c).code = c := by revert c; decide

@[simp] theorem Base.code_ofCode (c : BitVec 3) : (Base.ofCode c).code = c := by revert c; decide

@[simp] theorem encWord_wordOf (lo hi : Byte) : encWord (wordOf lo hi) = [lo, hi] := by simp [encWord]

theorem modrm_fields (b : Byte) : modrm (modOf b) (regOf b) (rmOf b) = b := by revert b; decide

/-- The four values of Mod. -/
theorem mod_cases (md : BitVec 2) : md = 0 ∨ md = 1 ∨ md = 2 ∨ md = 3 := by revert md; decide

/-- The eight values of Reg, as a case analysis. -/
theorem regCases {P : BitVec 3 → Prop} (r0 : P 0) (r1 : P 1) (r2 : P 2) (r3 : P 3) (r4 : P 4) (r5 : P 5) (r6 : P 6)
    (r7 : P 7) (n : BitVec 3) : P n := by
  have hn : n = 0 ∨ n = 1 ∨ n = 2 ∨ n = 3 ∨ n = 4 ∨ n = 5 ∨ n = 6 ∨ n = 7 := by revert n; decide
  rcases hn with rfl | rfl | rfl | rfl | rfl | rfl | rfl | rfl <;> assumption

/-- Mod=00 with an R/M other than 110 names address registers that need no displacement (R92). -/
theorem wf_ind_ofCode {c : BitVec 3} (h : c ≠ 6) : (MemOp.ind (Base.ofCode c)).wf = true := by revert c; decide

/-! ### Readers -/

/-- Whatever the reader answers is a well-formed instruction whose encoding, followed by what remains, is `bs`. -/
def Inverts (bs : List Byte) (x : Decoded) : Prop :=
  ∀ i rest, x = .ok (i, rest) → i.wf = true ∧ encode i ++ rest = bs

theorem inverts_done {i : Instr} (hw : i.wf = true) (he : encode i ++ rest = bs) : Inverts bs (done i rest) := by
  rintro _ _ ⟨⟩
  exact ⟨hw, he⟩

theorem inverts_withByte {k : Byte → List Byte → Decoded} (h : ∀ b tl, rest = b :: tl → Inverts bs (k b tl)) :
    Inverts bs (withByte rest k) := by
  cases rest with
  | nil => rintro _ _ ⟨⟩
  | cons b tl => exact h b tl rfl

theorem inverts_withWord {k : Word → List Byte → Decoded} (h : ∀ w tl, rest = encWord w ++ tl → Inverts bs (k w tl)) :
    Inverts bs (withWord rest k) :=
  inverts_withByte fun lo _ hlo => inverts_withByte fun hi tl hhi => h (wordOf lo hi) tl (by simp [hlo, hhi])

/-- Under ModRegR/M byte `b` the operand read is a well-formed one that `b` and its displacement encode. -/
theorem inverts_withMem {b : Byte} {k : MemOp → List Byte → Decoded} (hb : modOf b ≠ 3)
    (h : ∀ m tl, m.wf = true → b :: rest = encMem (regOf b) m ++ tl → Inverts bs (k m tl)) :
    Inverts bs (withMem (modOf b) (rmOf b) rest k) := by
  have hf := modrm_fields b
  obtain h0 | h1 | h2 | h3 := mod_cases (modOf b)
  · rw [h0] at hf
    rw [withMem, if_pos h0]
    split
    next h6 =>
      rw [h6] at hf
      exact inverts_withWord fun d tl ht => h (.abs d) tl rfl (by rw [ht, encMem, hf]; rfl)
    next h6 => exact h (.ind _) rest (wf_ind_ofCode h6) (by rw [encMem, Base.code_ofCode, hf]; rfl)
  · rw [h1] at hf ⊢
    exact inverts_withByte fun d tl ht => h (.ind8 _ d) tl rfl (by rw [ht, encMem, Base.code_ofCode, hf]; rfl)
  · rw [h2] at hf ⊢
    exact inverts_withWord fun d tl ht => h (.ind16 _ d) tl rfl (by rw [ht, encMem, Base.code_ofCode, hf]; rfl)
  · exact absurd h3 hb

theorem inverts_withRm8 {k : BitVec 3 → Rm8 → List Byte → Decoded}
    (h : ∀ n d tl, d.wf = true → rest = encRm8 n d ++ tl → Inverts bs (k n d tl)) : Inverts bs (withRm8 rest k) := by
  refine inverts_withByte fun b tl hb => ?_
  split
  next h3 => exact h _ _ tl rfl (by rw [hb, encRm8, Reg8.code_ofCode, ← h3, modrm_fields]; rfl)
  next h3 => exact inverts_withMem h3 fun m tl' hm ht => h _ (.mem m) tl' hm (hb.trans ht)

theorem inverts_withRm16 {k : BitVec 3 → Rm16 → List Byte → Decoded}
    (h : ∀ n d tl, d.wf = true → rest = encRm16 n d ++ tl → Inverts bs (k n d tl)) : Inverts bs (withRm16 rest k) := by
  refine inverts_withByte fun b tl hb => ?_
  split
  next h3 => exact h _ _ tl rfl (by rw [hb, encRm16, Reg16.code_ofCode, ← h3, modrm_fields]; rfl)
  next h3 => exact inverts_withMem h3 fun m tl' hm ht => h _ (.mem m) tl' hm (hb.trans ht)

/-! ### Unused pairs -/

theorem inverts_unlisted (h : ∀ b ∈ rest.head?, unusedPair op b = true) : Inverts (op :: rest) (unlisted op rest) :=
  inverts_withByte fun b _ hb => inverts_done (h b (by simp [hb])) (by rw [hb]; rfl)

/-- Only AAM and AAD ask for the whole byte after the opcode (R103). -/
theorem unusedPair_eq_of_fields {b c : Byte} (hop : op ≠ 0xD4 ∧ op ≠ 0xD5) (hr : regOf b = regOf c)
    (hm : (modOf b == 3) = (modOf c == 3)) : unusedPair op b = unusedPair op c := by
  have h5 : b.getLsbD 5 = c.getLsbD 5 := by
    calc b.getLsbD 5 = decide (4 ≤ (regOf b).toNat) := bit5_eq_le b
      _ = c.getLsbD 5 := by rw [hr]; exact (bit5_eq_le c).symm
  unfold unusedPair
  rw [hr, hm, h5]
  split
  case h_42 h => exact absurd (BitVec.eq_of_toNat_eq h) hop.1
  case h_43 h => exact absurd (BitVec.eq_of_toNat_eq h) hop.2
  all_goals rfl

/-- A `/n` that the opcode does not have, on a memory operand. -/
theorem inverts_unlisted_encMem {m : MemOp} (hu : unusedPair op (modrm 0 n 0) = true)
    (hop : op ≠ 0xD4 ∧ op ≠ 0xD5 := by decide) :
    Inverts (op :: (encMem n m ++ tl)) (unlisted op (encMem n m ++ tl)) := by
  obtain ⟨b, tl', he, hr, hm, -⟩ := encMem_cons n m
  refine inverts_unlisted fun c hc => (unusedPair_eq_of_fields hop ?_ ?_).trans hu
  all_goals simp only [he, List.cons_append, List.head?_cons, Option.mem_some_iff] at hc; subst hc
  · rw [hr, regOf_modrm]
  · rw [modOf_modrm, beq_false_of_ne hm]; rfl

/-- A `/n` that the opcode does not have, on a register. -/
theorem inverts_unlisted_reg {c : BitVec 3} (hu : unusedPair op (modrm 3 n 0) = true)
    (hop : op ≠ 0xD4 ∧ op ≠ 0xD5 := by decide) : Inverts (op :: modrm 3 n c :: tl) (unlisted op (modrm 3 n c :: tl)) := by
  refine inverts_unlisted fun b hb => (unusedPair_eq_of_fields hop ?_ ?_).trans hu <;> cases hb <;> simp

theorem inverts_unlisted_encRm8 {d : Rm8} (hm : unusedPair op (modrm 0 n 0) = true)
    (hr : unusedPair op (modrm 3 n 0) = true) (hop : op ≠ 0xD4 ∧ op ≠ 0xD5 := by decide) :
    Inverts (op :: (encRm8 n d ++ tl)) (unlisted op (encRm8 n d ++ tl)) := by
  cases d with
  | reg r => exact inverts_unlisted_reg hr hop
  | mem m => exact inverts_unlisted_encMem hm hop

theorem inverts_unlisted_encRm16 {d : Rm16} (hm : unusedPair op (modrm 0 n 0) = true)
    (hr : unusedPair op (modrm 3 n 0) = true) (hop : op ≠ 0xD4 ∧ op ≠ 0xD5 := by decide) :
    Inverts (op :: (encRm16 n d ++ tl)) (unlisted op (encRm16 n d ++ tl)) := by
  cases d with
  | reg r => exact inverts_unlisted_reg hr hop
  | mem m => exact inverts_unlisted_encMem hm hop

/-! ### Formats -/

theorem inverts_imm8 {k : Byte → Instr} (hw : ∀ b, (k b).wf = true) (he : ∀ b, encode (k b) = [op, b]) :
    Inverts (op :: rest) (imm8 k rest) :=
  inverts_withByte fun b _ ht => inverts_done (hw b) (by rw [he, ht]; rfl)

theorem inverts_imm16 {k : Word → Instr} (hw : ∀ w, (k w).wf = true) (he : ∀ w, encode (k w) = op :: encWord w) :
    Inverts (op :: rest) (imm16 k rest) :=
  inverts_withWord fun w _ ht => inverts_done (hw w) (by rw [he, ht]; rfl)

theorem inverts_far {k : Word → Word → Instr} (hw : ∀ o g, (k o g).wf = true)
    (he : ∀ o g, encode (k o g) = op :: encWord o ++ encWord g) : Inverts (op :: rest) (far k rest) :=
  inverts_withWord fun o _ ho => inverts_withWord fun g _ hg => inverts_done (hw o g) (by rw [he, ho, hg]; rfl)

theorem inverts_second {b : Byte} {i : Instr} (hw : i.wf = true) (he : encode i = [op, b])
    (hu : ∀ c, c ≠ b → unusedPair op c = true) : Inverts (op :: rest) (second b i op rest) := by
  refine inverts_withByte fun c tl hc => ?_
  split
  next hcb => exact inverts_done hw (by rw [he, hc, hcb]; rfl)
  next hcb =>
    refine inverts_unlisted fun d hd => hu d ?_
    rw [hc] at hd
    cases hd
    exact hcb

theorem inverts_rm8Reg8 {k : Rm8 → Reg8 → Instr} (hw : ∀ d r, (k d r).wf = d.wf)
    (he : ∀ d r, encode (k d r) = op :: encRm8 r.code d) : Inverts (op :: rest) (rm8Reg8 k rest) :=
  inverts_withRm8 fun _ d _ hd ht => inverts_done ((hw d _).trans hd) (by rw [he, ht, Reg8.code_ofCode]; rfl)

theorem inverts_rm16Reg16 {k : Rm16 → Reg16 → Instr} (hw : ∀ d r, (k d r).wf = d.wf)
    (he : ∀ d r, encode (k d r) = op :: encRm16 r.code d) : Inverts (op :: rest) (rm16Reg16 k rest) :=
  inverts_withRm16 fun _ d _ hd ht => inverts_done ((hw d _).trans hd) (by rw [he, ht, Reg16.code_ofCode]; rfl)

theorem inverts_reg8Rm8 {k : Reg8 → Rm8 → Instr} (hw : ∀ r d, (k r d).wf = d.wf)
    (he : ∀ r d, encode (k r d) = op :: encRm8 r.code d) : Inverts (op :: rest) (rm8Reg8 (fun d r => k r d) rest) :=
  inverts_rm8Reg8 (fun d r => hw r d) fun d r => he r d

theorem inverts_reg16Rm16 {k : Reg16 → Rm16 → Instr} (hw : ∀ r d, (k r d).wf = d.wf)
    (he : ∀ r d, encode (k r d) = op :: encRm16 r.code d) : Inverts (op :: rest) (rm16Reg16 (fun d r => k r d) rest) :=
  inverts_rm16Reg16 (fun d r => hw r d) fun d r => he r d

theorem inverts_memReg16 {k : Reg16 → MemOp → Instr} (hw : ∀ r m, (k r m).wf = m.wf)
    (he : ∀ r m, encode (k r m) = op :: encMem r.code m)
    (hu : ∀ b, unusedPair op b = (modOf b == 3)) (hop : op ≠ 0xD4 ∧ op ≠ 0xD5 := by decide) :
    Inverts (op :: rest) (memReg16 k op rest) := by
  refine inverts_withRm16 fun n d tl hd ht => ?_
  cases d with
  | reg r => rw [ht]; exact inverts_unlisted_reg (by rw [hu, modOf_modrm]; rfl) hop
  | mem m => exact inverts_done ((hw _ m).trans hd) (by rw [he, ht, Reg16.code_ofCode]; rfl)

/-- An immediate byte after the operand bytes `e`. -/
theorem inverts_thenByte {e : List Byte} {k : Byte → Instr} (hw : ∀ b, (k b).wf = true)
    (he : ∀ b, encode (k b) = op :: e ++ [b]) : Inverts (op :: (e ++ tl)) (withByte tl fun b r => done (k b) r) :=
  inverts_withByte fun b _ ht => inverts_done (hw b) (by rw [he, ht]; simp)

theorem inverts_thenWord {e : List Byte} {k : Word → Instr} (hw : ∀ w, (k w).wf = true)
    (he : ∀ w, encode (k w) = op :: e ++ encWord w) :
    Inverts (op :: (e ++ tl)) (withWord tl fun w r => done (k w) r) :=
  inverts_withWord fun w _ ht => inverts_done (hw w) (by rw [he, ht]; simp)

/-! ### The opcode map, by its rows (R100) -/

/-- The row of the opcode map for opcode `k` answers what encodes to the bytes it read. -/
def OpcodeInverts (k : Nat) : Prop :=
  ∀ rest, Inverts (BitVec.ofNat 8 k :: rest) (decodeOp (BitVec.ofNat 8 k) rest)

/-- A row whose instruction the Reg field tells: one case for each value of the field. -/
theorem opcodeInverts_of_digitRm8 {k : Nat} {f : List Byte → BitVec 3 → Rm8 → List Byte → Decoded}
    (hf : ∀ rest, decodeOp (BitVec.ofNat 8 k) rest = digitRm8 rest (f rest))
    (h : ∀ n d tl, d.wf = true →
      Inverts (BitVec.ofNat 8 k :: (encRm8 n d ++ tl)) (f (encRm8 n d ++ tl) n d tl)) : OpcodeInverts k := by
  intro rest
  rw [hf]
  exact inverts_withRm8 fun n d tl hd ht => ht ▸ h n d tl hd

theorem opcodeInverts_of_digitRm16 {k : Nat} {f : List Byte → BitVec 3 → Rm16 → List Byte → Decoded}
    (hf : ∀ rest, decodeOp (BitVec.ofNat 8 k) rest = digitRm16 rest (f rest))
    (h : ∀ n d tl, d.wf = true →
      Inverts (BitVec.ofNat 8 k :: (encRm16 n d ++ tl)) (f (encRm16 n d ++ tl) n d tl)) : OpcodeInverts k := by
  intro rest
  rw [hf]
  exact inverts_withRm16 fun n d tl hd ht => ht ▸ h n d tl hd

/-- 00 to 3F: the two-operand forms of ADD to CMP in six columns, then segment registers, prefixes and adjustments. -/
theorem opcodeInverts_alu {g j : Nat} (hg : g < 8) (hj : j < 8) : OpcodeInverts (8 * g + j) := by
  intro rest
  interval_cases j
  · interval_cases g <;> exact inverts_rm8Reg8 (fun _ _ => rfl) fun _ _ => rfl
  · interval_cases g <;> exact inverts_rm16Reg16 (fun _ _ => rfl) fun _ _ => rfl
  · interval_cases g <;> exact inverts_reg8Rm8 (fun _ _ => rfl) fun _ _ => rfl
  · interval_cases g <;> exact inverts_reg16Rm16 (fun _ _ => rfl) fun _ _ => rfl
  · interval_cases g <;> exact inverts_imm8 (fun _ => rfl) fun _ => rfl
  · interval_cases g <;> exact inverts_imm16 (fun _ => rfl) fun _ => rfl
  · interval_cases g <;> exact inverts_done rfl rfl
  · interval_cases g
    · exact inverts_done rfl rfl
    · exact inverts_unlisted fun _ _ => rfl
    iterate 6 exact inverts_done rfl rfl

theorem opcodeInverts_row4 {k : Nat} (hk : k < 16) : OpcodeInverts (0x40 + k) := by
  interval_cases k <;> exact fun _ => inverts_done rfl rfl

theorem opcodeInverts_row5 {k : Nat} (hk : k < 16) : OpcodeInverts (0x50 + k) := by
  interval_cases k <;> exact fun _ => inverts_done rfl rfl

theorem opcodeInverts_row6 {k : Nat} (hk : k < 16) : OpcodeInverts (0x60 + k) := by
  interval_cases k <;> exact fun _ => inverts_unlisted fun _ _ => rfl

theorem opcodeInverts_row7 {k : Nat} (hk : k < 16) : OpcodeInverts (0x70 + k) := by
  interval_cases k <;> exact fun _ => inverts_imm8 (fun _ => rfl) fun _ => rfl

/-! Opcodes whose instruction is told by the Reg field. -/

theorem opcodeInverts_80 : OpcodeInverts 0x80 := by
  refine opcodeInverts_of_digitRm8 (fun _ => rfl) fun n d tl hd => ?_
  cases n using regCases <;> exact inverts_thenByte (fun _ => hd) fun _ => rfl

theorem opcodeInverts_81 : OpcodeInverts 0x81 := by
  refine opcodeInverts_of_digitRm16 (fun _ => rfl) fun n d tl hd => ?_
  cases n using regCases <;> exact inverts_thenWord (fun _ => hd) fun _ => rfl

theorem opcodeInverts_83 : OpcodeInverts 0x83 := by
  refine opcodeInverts_of_digitRm16 (fun _ => rfl) fun n d tl hd => ?_
  cases n using regCases with
  | r1 | r4 | r6 => exact inverts_unlisted_encRm16 rfl rfl
  | _ => exact inverts_thenByte (fun _ => hd) fun _ => rfl

theorem opcodeInverts_8C : OpcodeInverts 0x8C := by
  refine opcodeInverts_of_digitRm16 (fun _ => rfl) fun n d tl hd => ?_
  cases n using regCases with
  | r0 | r1 | r2 | r3 => exact inverts_done hd rfl
  | _ => exact inverts_unlisted_encRm16 rfl rfl

theorem opcodeInverts_8E : OpcodeInverts 0x8E := by
  refine opcodeInverts_of_digitRm16 (fun _ => rfl) fun n d tl hd => ?_
  cases n using regCases with
  | r0 | r2 | r3 => exact inverts_done hd rfl
  | _ => exact inverts_unlisted_encRm16 rfl rfl

theorem opcodeInverts_8F : OpcodeInverts 0x8F := by
  refine opcodeInverts_of_digitRm16 (fun _ => rfl) fun n d tl hd => ?_
  cases n using regCases with
  | r0 => exact inverts_done hd rfl
  | _ => exact inverts_unlisted_encRm16 rfl rfl

theorem opcodeInverts_C6 : OpcodeInverts 0xC6 := by
  refine opcodeInverts_of_digitRm8 (fun _ => rfl) fun n d tl hd => ?_
  cases n using regCases with
  | r0 => exact inverts_thenByte (fun _ => hd) fun _ => rfl
  | _ => exact inverts_unlisted_encRm8 rfl rfl

theorem opcodeInverts_C7 : OpcodeInverts 0xC7 := by
  refine opcodeInverts_of_digitRm16 (fun _ => rfl) fun n d tl hd => ?_
  cases n using regCases with
  | r0 => exact inverts_thenWord (fun _ => hd) fun _ => rfl
  | _ => exact inverts_unlisted_encRm16 rfl rfl

theorem opcodeInverts_shiftRm8 {k : Nat} (hk : k = 0xD0 ∨ k = 0xD2) : OpcodeInverts k := by
  obtain rfl | rfl := hk
  all_goals
    refine opcodeInverts_of_digitRm8 (fun _ => rfl) fun n d tl hd => ?_
    cases n using regCases with
    | r6 => exact inverts_unlisted_encRm8 rfl rfl
    | _ => exact inverts_done hd rfl

theorem opcodeInverts_shiftRm16 {k : Nat} (hk : k = 0xD1 ∨ k = 0xD3) : OpcodeInverts k := by
  obtain rfl | rfl := hk
  all_goals
    refine opcodeInverts_of_digitRm16 (fun _ => rfl) fun n d tl hd => ?_
    cases n using regCases with
    | r6 => exact inverts_unlisted_encRm16 rfl rfl
    | _ => exact inverts_done hd rfl

/-- ESC: the coprocessor's operation is the low half of the opcode, then Reg (R290). -/
theorem opcodeInverts_esc {k : Nat} (hk : k < 8) : OpcodeInverts (0xD8 + k) := by
  interval_cases k
  all_goals
    refine opcodeInverts_of_digitRm16 (fun _ => rfl) fun n d tl hd => ?_
    cases n using regCases <;> exact inverts_done hd rfl

theorem opcodeInverts_F6 : OpcodeInverts 0xF6 := by
  refine opcodeInverts_of_digitRm8 (fun _ => rfl) fun n d tl hd => ?_
  cases n using regCases with
  | r0 => exact inverts_thenByte (fun _ => hd) fun _ => rfl
  | r1 => exact inverts_unlisted_encRm8 rfl rfl
  | _ => exact inverts_done hd rfl

theorem opcodeInverts_F7 : OpcodeInverts 0xF7 := by
  refine opcodeInverts_of_digitRm16 (fun _ => rfl) fun n d tl hd => ?_
  cases n using regCases with
  | r0 => exact inverts_thenWord (fun _ => hd) fun _ => rfl
  | r1 => exact inverts_unlisted_encRm16 rfl rfl
  | _ => exact inverts_done hd rfl

theorem opcodeInverts_FE : OpcodeInverts 0xFE := by
  refine opcodeInverts_of_digitRm8 (fun _ => rfl) fun n d tl hd => ?_
  cases n using regCases with
  | r0 | r1 => exact inverts_done hd rfl
  | _ => exact inverts_unlisted_encRm8 rfl rfl

theorem opcodeInverts_FF : OpcodeInverts 0xFF := by
  refine opcodeInverts_of_digitRm16 (fun _ => rfl) fun n d tl hd => ?_
  cases n using regCases with
  | r3 | r5 =>
    cases d with
    | reg r => exact inverts_unlisted_reg rfl
    | mem m => exact inverts_done hd rfl
  | r7 => exact inverts_unlisted_encRm16 rfl rfl
  | _ => exact inverts_done hd rfl

/-! The other rows. -/

theorem opcodeInverts_row8 {k : Nat} (hk : k < 16) : OpcodeInverts (0x80 + k) := by
  interval_cases k
  · exact opcodeInverts_80
  · exact opcodeInverts_81
  · exact fun _ => inverts_unlisted fun _ _ => rfl
  · exact opcodeInverts_83
  · exact fun _ => inverts_rm8Reg8 (fun _ _ => rfl) fun _ _ => rfl
  · exact fun _ => inverts_rm16Reg16 (fun _ _ => rfl) fun _ _ => rfl
  · exact fun _ => inverts_rm8Reg8 (fun _ _ => rfl) fun _ _ => rfl
  · exact fun _ => inverts_rm16Reg16 (fun _ _ => rfl) fun _ _ => rfl
  · exact fun _ => inverts_rm8Reg8 (fun _ _ => rfl) fun _ _ => rfl
  · exact fun _ => inverts_rm16Reg16 (fun _ _ => rfl) fun _ _ => rfl
  · exact fun _ => inverts_reg8Rm8 (fun _ _ => rfl) fun _ _ => rfl
  · exact fun _ => inverts_reg16Rm16 (fun _ _ => rfl) fun _ _ => rfl
  · exact opcodeInverts_8C
  · exact fun _ => inverts_memReg16 (fun _ _ => rfl) (fun _ _ => rfl) fun _ => rfl
  · exact opcodeInverts_8E
  · exact opcodeInverts_8F

theorem opcodeInverts_row9 {k : Nat} (hk : k < 16) : OpcodeInverts (0x90 + k) := by
  interval_cases k
  iterate 10 exact fun _ => inverts_done rfl rfl
  · exact fun _ => inverts_far (fun _ _ => rfl) fun _ _ => rfl
  iterate 5 exact fun _ => inverts_done rfl rfl

theorem opcodeInverts_rowA {k : Nat} (hk : k < 16) : OpcodeInverts (0xA0 + k) := by
  interval_cases k
  iterate 4 exact fun _ => inverts_imm16 (fun _ => rfl) fun _ => rfl
  iterate 4 exact fun _ => inverts_done rfl rfl
  · exact fun _ => inverts_imm8 (fun _ => rfl) fun _ => rfl
  · exact fun _ => inverts_imm16 (fun _ => rfl) fun _ => rfl
  iterate 6 exact fun _ => inverts_done rfl rfl

theorem opcodeInverts_rowB {k : Nat} (hk : k < 16) : OpcodeInverts (0xB0 + k) := by
  interval_cases k
  iterate 8 exact fun _ => inverts_imm8 (fun _ => rfl) fun _ => rfl
  iterate 8 exact fun _ => inverts_imm16 (fun _ => rfl) fun _ => rfl

theorem opcodeInverts_rowC {k : Nat} (hk : k < 16) : OpcodeInverts (0xC0 + k) := by
  interval_cases k
  iterate 2 exact fun _ => inverts_unlisted fun _ _ => rfl
  · exact fun _ => inverts_imm16 (fun _ => rfl) fun _ => rfl
  · exact fun _ => inverts_done rfl rfl
  iterate 2 exact fun _ => inverts_memReg16 (fun _ _ => rfl) (fun _ _ => rfl) fun _ => rfl
  · exact opcodeInverts_C6
  · exact opcodeInverts_C7
  iterate 2 exact fun _ => inverts_unlisted fun _ _ => rfl
  · exact fun _ => inverts_imm16 (fun _ => rfl) fun _ => rfl
  iterate 2 exact fun _ => inverts_done rfl rfl
  · exact fun _ => inverts_imm8 (fun _ => rfl) fun _ => rfl
  iterate 2 exact fun _ => inverts_done rfl rfl

theorem opcodeInverts_rowD_low {k : Nat} (hk : k < 8) : OpcodeInverts (0xD0 + k) := by
  interval_cases k
  · exact opcodeInverts_shiftRm8 (.inl rfl)
  · exact opcodeInverts_shiftRm16 (.inl rfl)
  · exact opcodeInverts_shiftRm8 (.inr rfl)
  · exact opcodeInverts_shiftRm16 (.inr rfl)
  iterate 2 exact fun _ => inverts_second rfl rfl fun c hc => bne_iff_ne.2 hc
  · exact fun _ => inverts_unlisted fun _ _ => rfl
  · exact fun _ => inverts_done rfl rfl

theorem opcodeInverts_rowD {k : Nat} (hk : k < 16) : OpcodeInverts (0xD0 + k) := by
  obtain h | ⟨j, hj, rfl⟩ : k < 8 ∨ ∃ j, j < 8 ∧ k = 8 + j :=
    (lt_or_ge k 8).imp_right fun h => ⟨k - 8, by omega, by omega⟩
  · exact opcodeInverts_rowD_low h
  · rw [← Nat.add_assoc]
    exact opcodeInverts_esc hj

theorem opcodeInverts_rowE {k : Nat} (hk : k < 16) : OpcodeInverts (0xE0 + k) := by
  interval_cases k
  iterate 8 exact fun _ => inverts_imm8 (fun _ => rfl) fun _ => rfl
  iterate 2 exact fun _ => inverts_imm16 (fun _ => rfl) fun _ => rfl
  · exact fun _ => inverts_far (fun _ _ => rfl) fun _ _ => rfl
  · exact fun _ => inverts_imm8 (fun _ => rfl) fun _ => rfl
  iterate 4 exact fun _ => inverts_done rfl rfl

theorem opcodeInverts_rowF {k : Nat} (hk : k < 16) : OpcodeInverts (0xF0 + k) := by
  interval_cases k
  · exact fun _ => inverts_done rfl rfl
  · exact fun _ => inverts_unlisted fun _ _ => rfl
  iterate 4 exact fun _ => inverts_done rfl rfl
  · exact opcodeInverts_F6
  · exact opcodeInverts_F7
  iterate 6 exact fun _ => inverts_done rfl rfl
  · exact opcodeInverts_FE
  · exact opcodeInverts_FF

theorem opcodeInverts {k : Nat} (hk : k < 256) : OpcodeInverts k := by
  by_cases h : k < 0x40
  · have halu := opcodeInverts_alu (g := k / 8) (j := k % 8) (by omega) (by omega)
    rwa [Nat.div_add_mod] at halu
  · obtain ⟨hi, lo, hlo, rfl⟩ : ∃ hi lo, lo < 16 ∧ k = 16 * hi + lo := ⟨k / 16, k % 16, by omega, by omega⟩
    have hhi : 4 ≤ hi ∧ hi < 16 := by omega
    obtain ⟨h4, h16⟩ := hhi
    interval_cases hi
    · exact opcodeInverts_row4 hlo
    · exact opcodeInverts_row5 hlo
    · exact opcodeInverts_row6 hlo
    · exact opcodeInverts_row7 hlo
    · exact opcodeInverts_row8 hlo
    · exact opcodeInverts_row9 hlo
    · exact opcodeInverts_rowA hlo
    · exact opcodeInverts_rowB hlo
    · exact opcodeInverts_rowC hlo
    · exact opcodeInverts_rowD hlo
    · exact opcodeInverts_rowE hlo
    · exact opcodeInverts_rowF hlo

theorem inverts_decodeOp (op : Byte) (rest : List Byte) : Inverts (op :: rest) (decodeOp op rest) := by
  have h := opcodeInverts op.isLt rest
  rwa [BitVec.ofNat_toNat, BitVec.setWidth_eq] at h

/-- The decoder answers nothing that does not encode back: the pairs of R103 as they are, the others by the opcode map. -/
theorem inverts_decode (bs : List Byte) : Inverts bs (decode bs) := by
  match bs with
  | [] => rintro _ _ ⟨⟩
  | [op] => exact inverts_decodeOp op []
  | op :: next :: rest =>
    rw [decode]
    split
    next hu => exact inverts_done hu rfl
    next => exact inverts_decodeOp op (next :: rest)

/-- Settles O2. -/
theorem encodeOfDecode : Obligations.EncodeOfDecode := fun bs rest i => inverts_decode bs i rest

/-! ### The statements about the encoding -/

/-- Settles O1. -/
theorem decodeOfEncode : Obligations.DecodeOfEncode := fun i rest h => decode_encode i h rest

/-- Settles O3: the decoder runs on each word. -/
theorem decodesWords : Obligations.DecodesWords :=
  ⟨rfl, rfl, rfl, rfl, rfl, rfl, rfl, rfl, rfl, rfl, rfl, rfl⟩

/-- Settles O4: the list is the model's table, which `decode` asks first; and what decodes is well-formed, so the pair of an
unused instruction is in the table. -/
theorem unusedRefused : Obligations.UnusedRefused := by
  refine ⟨fun op next rest s h => ⟨?_, rfl⟩, fun bs rest op next h => ?_⟩
  · rw [← unusedPair_eq_listedR103] at h
    exact if_pos h
  · rw [← unusedPair_eq_listedR103]
    exact (inverts_decode bs _ rest h).1

end Sys2Proof
end

section
/-! SUPPORT. Effective addresses over unbounded integers, and the segment they are used with (30_encoding R93, R95). -/

namespace Sys2Proof.Machine

theorem sext16_toNat (d : Byte) : ((sext16 d).toNat : Int) = d.toInt % 2 ^ 16 := by
  rw [sext16, BitVec.signExtend, BitVec.toNat_ofInt]
  omega

theorem State.base_toNat (s : State) (b : Base) : (s.base b).toNat = s.baseSum b % 2 ^ 16 := by
  cases b with
  | bxsi | bxdi | bpsi | bpdi => exact BitVec.toNat_add _ _
  | si | di | bp | bx => exact (Nat.mod_eq_of_lt (BitVec.isLt _)).symm

theorem segOf_of_override {s : State} {r : SReg} (h : s.pfx.seg = some r) (m : MemOp) : s.segOf m = s.sreg r := by
  rw [State.segOf, h]
  rfl

theorem segOf_of_no_override {s : State} (h : s.pfx.seg = none) (m : MemOp) : s.segOf m = s.sreg m.defaultSeg := by
  rw [State.segOf, h]
  rfl

/-- SS when BP takes part, else DS (R95). -/
theorem sreg_defaultSeg (s : State) (b : Base) :
    s.sreg (MemOp.ind b).defaultSeg = if b = .bpsi ∨ b = .bpdi ∨ b = .bp then s.segs.ss else s.segs.ds := by
  cases b <;> rfl

/-- Settles O6: sums modulo 2^16 of the base and the displacement, and the segment with and without an override. -/
theorem effectiveAddresses : Obligations.EffectiveAddresses := by
  intro s b d8 d
  have hb := State.base_toNat s b
  refine ⟨rfl, hb, ?_, ?_, fun m r h => segOf_of_override h m, fun h => ⟨segOf_of_no_override h _, ?_⟩⟩
  · have hd := sext16_toNat d8
    rw [State.ea, BitVec.toNat_add, hb]
    omega
  · rw [State.ea, BitVec.toNat_add, hb, Nat.mod_add_mod]
  · rintro m (rfl | rfl | rfl) <;> exact (segOf_of_no_override h _).trans (sreg_defaultSeg s b)

end Sys2Proof.Machine
end

section
/-! SUPPORT. The instructions that stand before another and record themselves (30_encoding R85, R86): recording one, then the step that
collects several in any order, each of another group. -/

namespace Sys2Proof.Machine

variable {s : State} {p : Prefixes} {q i : Instr} {ps : List Instr}

/-! ### Recording one -/

/-- Settles O47: each of the seven is recorded, or refused, by one of three operations. -/
theorem prefixRecording : Obligations.PrefixRecording := by
  refine fun s => ⟨fun h => ?_, fun h => ?_, fun h => ?_, fun i h => ?_⟩
  · have hn (r : SReg) : recordSeg r s = .next { s with pfx := { s.pfx with seg := some r } } := by simp [recordSeg, h]
    exact ⟨hn .es, hn .cs, hn .ss, hn .ds⟩
  · exact if_neg (by simp [h])
  · have hn (k : RepKind) : recordRep k s = .next { s with pfx := { s.pfx with rep := some k } } := by
      simp [recordRep, h]
    exact ⟨hn .rep, hn .repne⟩
  · obtain ⟨hi, h⟩ | ⟨rfl, h⟩ | ⟨hi, h⟩ := h
    · have hr (r : SReg) : recordSeg r s = .refused .prefixGroupRepeated := if_pos (Option.isSome_iff_ne_none.2 h)
      obtain rfl | rfl | rfl | rfl := hi <;> exact hr _
    · exact if_pos h
    · have hr (k : RepKind) : recordRep k s = .refused .prefixGroupRepeated := if_pos (Option.isSome_iff_ne_none.2 h)
      obtain rfl | rfl := hi <;> exact hr _

/-! ### What has been recorded -/

/-- One of the group is recorded (R85). -/
def Prefixes.has (p : Prefixes) (g : Option Nat) : Prop :=
  g = some 1 ∧ p.lock = true ∨ g = some 2 ∧ p.rep ≠ Option.none ∨ g = some 3 ∧ p.seg ≠ Option.none

/-- What is recorded in `p`, and what `c` records in the groups that `p` leaves open. -/
def Prefixes.join (p c : Prefixes) : Prefixes := ⟨p.seg.or c.seg, p.lock || c.lock, p.rep.or c.rep⟩

@[simp] theorem Prefixes.none_join (c : Prefixes) : Prefixes.none.join c = c := rfl

@[simp] theorem Prefixes.join_none (c : Prefixes) : c.join Prefixes.none = c := by
  simp [Prefixes.join, Prefixes.none]

theorem Prefixes.join_assoc (a b c : Prefixes) : (a.join b).join c = a.join (b.join c) := by
  simp [Prefixes.join, Option.or_assoc, Bool.or_assoc]

theorem Prefixes.has_join (a b : Prefixes) (g : Option Nat) : (a.join b).has g ↔ a.has g ∨ b.has g := by
  simp only [Prefixes.has, Prefixes.join, Bool.or_eq_true, ne_eq, Option.or_eq_none_iff]
  tauto

theorem Prefixes.not_none_has (g : Option Nat) : ¬Prefixes.none.has g := by simp [Prefixes.has, Prefixes.none]

@[simp] theorem collected_nil : collected [] = Prefixes.none := rfl

theorem collected_cons (q : Instr) (ps : List Instr) : collected (q :: ps) = (collected [q]).join (collected ps) := by
  cases q <;> rfl

/-- The seven instructions that record themselves (R85). -/
theorem isPrefix_iff : q.isPrefix = true ↔
    (q = .segEs ∨ q = .segCs ∨ q = .segSs ∨ q = .segDs) ∨ q = .lock ∨ q = .rep ∨ q = .repne := by
  cases q <;> simp [Instr.isPrefix]

theorem collected_has (hq : q.isPrefix = true) (g : Option Nat) : (collected [q]).has g ↔ prefixGroup q = g := by
  obtain (rfl | rfl | rfl | rfl) | rfl | rfl | rfl := isPrefix_iff.1 hq <;>
    simp [Prefixes.has, collected, Prefixes.none, prefixGroup, eq_comm]

theorem exec_recorded (hq : q.isPrefix = true) (h : ¬s.pfx.has (prefixGroup q)) :
    exec q s = .next { s with
      pfx := s.pfx.join (collected [q])
      outputs := if (collected [q]).lock then .lock :: s.outputs else s.outputs } := by
  obtain ⟨hseg, hlock, hrep, -⟩ := prefixRecording s
  obtain hq | rfl | hq := isPrefix_iff.1 hq
  · have hs : s.pfx.seg = none := by
      obtain rfl | rfl | rfl | rfl := hq <;> simpa [Prefixes.has, prefixGroup] using h
    obtain ⟨hes, hcs, hss, hds⟩ := hseg hs
    obtain rfl | rfl | rfl | rfl := hq
    · simp [hes, Prefixes.join, collected, Prefixes.none, hs]
    · simp [hcs, Prefixes.join, collected, Prefixes.none, hs]
    · simp [hss, Prefixes.join, collected, Prefixes.none, hs]
    · simp [hds, Prefixes.join, collected, Prefixes.none, hs]
  · have hl : s.pfx.lock = false := by simpa [Prefixes.has, prefixGroup] using h
    simp [hlock hl, Prefixes.join, collected, Prefixes.none]
  · have hr : s.pfx.rep = none := by obtain rfl | rfl := hq <;> simpa [Prefixes.has, prefixGroup] using h
    obtain ⟨hrep, hrepne⟩ := hrep hr
    obtain rfl | rfl := hq
    · simp [hrep, Prefixes.join, collected, Prefixes.none, hr]
    · simp [hrepne, Prefixes.join, collected, Prefixes.none, hr]

theorem exec_repeated (hq : q.isPrefix = true) (h : s.pfx.has (prefixGroup q)) :
    exec q s = .refused .prefixGroupRepeated := by
  obtain ⟨-, -, -, href⟩ := prefixRecording s
  refine href q ?_
  obtain hq | rfl | hq := isPrefix_iff.1 hq
  · exact .inl ⟨hq, by obtain rfl | rfl | rfl | rfl := hq <;> simpa [Prefixes.has, prefixGroup] using h⟩
  · exact .inr (.inl ⟨rfl, by simpa [Prefixes.has, prefixGroup] using h⟩)
  · exact .inr (.inr ⟨hq, by obtain rfl | rfl := hq <;> simpa [Prefixes.has, prefixGroup] using h⟩)

/-! ### Collecting -/

/-- The groups are all different, and none of them is recorded yet. -/
def Fresh (p : Prefixes) (ps : List Instr) : Prop :=
  (ps.map prefixGroup).Nodup ∧ ∀ q ∈ ps, ¬p.has (prefixGroup q)

theorem fresh_cons (hq : q.isPrefix = true) :
    Fresh p (q :: ps) ↔ ¬p.has (prefixGroup q) ∧ Fresh (p.join (collected [q])) ps := by
  simp [Fresh, Prefixes.has_join, collected_has hq, not_or, forall_and]
  tauto


theorem fresh_none_iff : Fresh Prefixes.none ps ↔ (ps.map prefixGroup).Nodup := by
  simp [Fresh, Prefixes.not_none_has]

/-- There are three groups. -/
theorem Fresh.length_le (h : Fresh p ps) (hps : ∀ q ∈ ps, q.isPrefix = true) : ps.length ≤ 3 := by
  have hsub : ps.map prefixGroup ⊆ [some 1, some 2, some 3] := by
    intro g hg
    obtain ⟨q, hq, rfl⟩ := List.mem_map.1 hg
    obtain (rfl | rfl | rfl | rfl) | rfl | rfl | rfl := isPrefix_iff.1 (hps q hq) <;> simp [prefixGroup]
  simpa using (h.1.subperm hsub).length_le

theorem collected_has_iff (hps : ∀ q ∈ ps, q.isPrefix = true) (g : Option Nat) :
    (collected ps).has g ↔ g ∈ ps.map prefixGroup := by
  induction ps with
  | nil => simp [Prefixes.not_none_has]
  | cons q ps ih =>
    obtain ⟨hq, hps⟩ := List.forall_mem_cons.1 hps
    rw [collected_cons, Prefixes.has_join, collected_has hq, ih hps, List.map_cons, List.mem_cons, eq_comm]

/-- After the bytes of `ps`, all of them recorded; LOCK# is put out when its turn comes. -/
def State.recorded (s : State) (ps : List Instr) : State :=
  { s.past ps.length with
    pfx := s.pfx.join (collected ps)
    outputs := if (collected ps).lock then .lock :: s.outputs else s.outputs }

theorem past_past (m n : Nat) : (s.past m).past n = s.past (m + n) := by
  simp [State.past, BitVec.ofNat_add, BitVec.add_assoc]

theorem recorded_nil : s.recorded [] = s := by
  have hl : Prefixes.none.lock = false := rfl
  simp [State.recorded, State.past, hl]

/-- LOCK is not asked for twice, so its event is put out once. -/
theorem recorded_cons (hps : ∀ r ∈ q :: ps, r.isPrefix = true) (hf : Fresh p (q :: ps)) :
    (s.recorded [q]).recorded ps = s.recorded (q :: ps) := by
  obtain ⟨hq, hps⟩ := List.forall_mem_cons.1 hps
  have hone : ¬((collected [q]).lock = true ∧ (collected ps).lock = true) := by
    rintro ⟨hl, hl'⟩
    have hg : prefixGroup q = some 1 := (collected_has hq _).1 (.inl ⟨rfl, hl⟩)
    have hm : some 1 ∈ ps.map prefixGroup := (collected_has_iff hps _).1 (.inl ⟨rfl, hl'⟩)
    exact (List.nodup_cons.1 hf.1).1 (hg ▸ hm)
  have hpast : (s.past 1).past ps.length = s.past (q :: ps).length := by
    rw [past_past, Nat.add_comm, List.length_cons]
  have hpfx : (s.pfx.join (collected [q])).join (collected ps) = s.pfx.join (collected (q :: ps)) := by
    rw [Prefixes.join_assoc, ← collected_cons]
  have hlock : (collected (q :: ps)).lock = ((collected [q]).lock || (collected ps).lock) := by rw [collected_cons]; rfl
  have hout : (if (collected ps).lock then .lock :: (s.recorded [q]).outputs else (s.recorded [q]).outputs) =
      if (collected (q :: ps)).lock then .lock :: s.outputs else s.outputs := by
    rw [hlock, State.recorded]
    cases hl : (collected [q]).lock <;> cases hl' : (collected ps).lock <;> simp_all
  rw [State.recorded, State.recorded.eq_def s (q :: ps), ← hpast, ← hpfx, ← hout]
  rfl

section Fetches

variable (hq : q.isPrefix = true)
include hq

theorem length_encode_of_isPrefix : (encode q).length = 1 := by
  obtain (rfl | rfl | rfl | rfl) | rfl | rfl | rfl := isPrefix_iff.1 hq <;> rfl

theorem wf_of_isPrefix : q.wf = true := by
  obtain (rfl | rfl | rfl | rfl) | rfl | rfl | rfl := isPrefix_iff.1 hq <;> rfl

theorem fetch_of_isPrefix (hb : s.bytesAt (encode q)) : s.fetch = .ok (q, s.past 1) := by
  have h := fetch_eq hb (length_encode_le q) (decode_encode q (wf_of_isPrefix hq))
  rwa [length_encode_of_isPrefix hq] at h

theorem runInstr_of_not_has (hb : s.bytesAt (encode q)) (h : ¬s.pfx.has (prefixGroup q)) (n : Nat) :
    runInstr (n + 1) s = runInstr n (s.recorded [q]) := by
  have he : exec q (s.past 1) = .next (s.recorded [q]) := exec_recorded hq h
  simp only [runInstr, fetch_of_isPrefix hq hb, hq, he, if_true]

theorem runInstr_of_has (hb : s.bytesAt (encode q)) (h : s.pfx.has (prefixGroup q)) (n : Nat) :
    runInstr (n + 1) s = .refused .prefixGroupRepeated := by
  have he : exec q (s.past 1) = .refused .prefixGroupRepeated := exec_repeated hq h
  simp only [runInstr, fetch_of_isPrefix hq hb, hq, he, if_true]

/-- Recording one moves past its byte; what is met from there on is the same. -/
theorem bytesAt_recorded {bs : List Byte} :
    s.bytesAt (encode q ++ bs) ↔ s.bytesAt (encode q) ∧ (s.recorded [q]).bytesAt bs := by
  rw [bytesAt_append, length_encode_of_isPrefix hq]
  exact Iff.rfl

end Fetches

theorem runInstr_of_fresh (hps : ∀ q ∈ ps, q.isPrefix = true) (hf : Fresh s.pfx ps)
    (hb : s.bytesAt (ps.flatMap encode)) (n : Nat) : runInstr (ps.length + n) s = runInstr n (s.recorded ps) := by
  induction ps generalizing s with
  | nil => rw [recorded_nil, List.length_nil, Nat.zero_add]
  | cons q ps ih =>
    obtain ⟨hq, hps'⟩ := List.forall_mem_cons.1 hps
    obtain ⟨hh, hf'⟩ := (fresh_cons hq).1 hf
    obtain ⟨hb, hb'⟩ := (bytesAt_recorded hq).1 hb
    calc runInstr ((q :: ps).length + n) s = runInstr (ps.length + n + 1) s := by
          rw [List.length_cons, Nat.add_right_comm]
      _ = runInstr (ps.length + n) (s.recorded [q]) := runInstr_of_not_has hq hb hh _
      _ = runInstr n ((s.recorded [q]).recorded ps) := ih hps' hf' hb'
      _ = runInstr n (s.recorded (q :: ps)) := by rw [recorded_cons hps hf]

/-- However many fetches are left, the second of a group ends in a refusal. -/
theorem runInstr_of_not_fresh (hps : ∀ q ∈ ps, q.isPrefix = true) (hf : ¬Fresh s.pfx ps)
    (hb : s.bytesAt (ps.flatMap encode)) (n : Nat) : runInstr n s = .refused .prefixGroupRepeated := by
  induction ps generalizing s n with
  | nil => exact absurd ⟨List.nodup_nil, by simp⟩ hf
  | cons q ps ih =>
    obtain ⟨hq, hps⟩ := List.forall_mem_cons.1 hps
    obtain ⟨hb, hb'⟩ := (bytesAt_recorded hq).1 hb
    cases n with
    | zero => rfl
    | succ n =>
      by_cases hh : s.pfx.has (prefixGroup q)
      · exact runInstr_of_has hq hb hh n
      · rw [runInstr_of_not_has hq hb hh]
        exact ih hps (fun h => hf ((fresh_cons hq).2 ⟨hh, h⟩)) hb' n

theorem length_flatMap_encode (hps : ∀ q ∈ ps, q.isPrefix = true) : (ps.flatMap encode).length = ps.length := by
  induction ps with
  | nil => rfl
  | cons q ps ih =>
    obtain ⟨hq, hps⟩ := List.forall_mem_cons.1 hps
    rw [List.flatMap_cons, List.length_append, length_encode_of_isPrefix hq, ih hps, List.length_cons, Nat.add_comm]

theorem window_with (s : State) (p : Prefixes) (es : List BusEvent) (n : Nat) (off : Word) :
    ({ s with pfx := p, outputs := es } : State).window n off = s.window n off := by
  induction n generalizing off with
  | zero => rfl
  | succ n ih => simp only [State.window, ih]; rfl

/-- Fetching ahead does not look at what is recorded or put out. -/
theorem fetchAhead_with (s : State) (p : Prefixes) (es : List BusEvent) :
    ({ s with pfx := p, outputs := es } : State).fetchAhead = { s.fetchAhead with pfx := p, outputs := es } := by
  cases h : s.cfg.prefetchDepth with
  | zero => simp only [State.fetchAhead, h]
  | succ d => simp only [State.fetchAhead, h, State.beyond, window_with]; rfl

theorem runInstr_after_recorded (hwf : i.wf = true) (hi : i.isPrefix = false) (hb : (s.recorded ps).bytesAt (encode i))
    (n : Nat) : runInstr (n + 1) (s.recorded ps) =
      match prefixRefusal (s.pfx.join (collected ps)) i with
      | some r => .refused r
      | none => exec i { (s.past (ps.length + (encode i).length)).fetchAhead with
          pfx := s.pfx.join (collected ps)
          outputs := if (collected ps).lock then .lock :: s.outputs else s.outputs } := by
  have hf := fetch_eq hb (length_encode_le i) (decode_encode i hwf)
  rw [← fetchAhead_with, ← past_past]
  simp only [runInstr, hf, hi]
  rfl

/-- Settles O50. -/
theorem stepCollectsPrefixes : Obligations.StepCollectsPrefixes := by
  intro s ps hs hps
  rw [step_of_atFetch hs, ← fresh_none_iff]
  refine ⟨fun hf i hwf hi hb => ?_, fun hf hb => ?_⟩
  · have hb : s.begin.bytesAt (ps.flatMap encode ++ encode i) := hb
    have hl : (ps.flatMap encode ++ encode i).length = ps.length + (encode i).length := by
      rw [List.length_append, length_flatMap_encode hps]
    have ha := aheadPast_fetchAhead hb
    rw [hl] at ha
    obtain ⟨hb, hb'⟩ := bytesAt_append.1 hb
    rw [length_flatMap_encode hps] at hb'
    obtain ⟨n, hn⟩ : ∃ n, 4 = ps.length + (n + 1) := ⟨3 - ps.length, by have := hf.length_le hps; omega⟩
    refine ⟨_, (s.begin.past (ps.length + (encode i).length)).fetchAhead.draws, ha, fun hd => ?_, ?_⟩
    · rw [fetchAhead_of_depth_zero (s := s.begin.past _) hd]; rfl
    · rw [hn, runInstr_of_fresh hps hf hb, runInstr_after_recorded hwf hi hb', fetchAhead_eq]
      have hp : s.begin.pfx.join (collected ps) = collected ps := Prefixes.none_join _
      rw [hp]
      cases prefixRefusal (collected ps) i <;> rfl
  · rw [runInstr_of_not_fresh hps (s := s.begin) hf hb]
    rfl

end Sys2Proof.Machine
end

section
/-! SUPPORT. Which bytes of memory an instruction may change (30_encoding R96, 20_memory R62, 44_string R237, 60_exceptions R330): one
rule per store, one per shape of meaning, then one theorem over all instructions. -/

namespace Sys2Proof.Machine

variable {A : List Nat} {i : Instr} {s t u : State}

/-! ### Memory kept but for a list of addresses -/

/-- From `s` to `t` the canonical form stays, and no byte outside the list `A` changes. -/
structure ChangesOnly (A : List Nat) (s t : State) : Prop where
  memOk : s.memOk → t.memOk
  read : s.memOk → ∀ a, a ∉ A → t.mem.read a = s.mem.read a

theorem ChangesOnly.of_mem (h : t.mem = s.mem) : ChangesOnly A s t where
  memOk hs := by rwa [State.memOk, h]
  read _ _ _ := by rw [h]

theorem ChangesOnly.refl (s : State) : ChangesOnly A s s := .of_mem rfl

/-- After more that writes no memory. -/
theorem ChangesOnly.then_mem (h : ChangesOnly A s u) (hm : t.mem = u.mem) : ChangesOnly A s t where
  memOk hs := by rw [State.memOk, hm]; exact h.memOk hs
  read hs a ha := by rw [hm]; exact h.read hs a ha

theorem ChangesOnly.put8 (h : ChangesOnly A s u) {a : Nat} (ha : a ∈ A) (hlt : a < 2 ^ 20) (b : Byte) :
    ChangesOnly A s (u.put8 a b) where
  memOk hs := put8_memOk (h.memOk hs) hlt b
  read hs x hx := by
    have hne : x ≠ a := fun e => hx (e ▸ ha)
    by_cases hr : u.isRam a
    · rw [put8_read (h.memOk hs) hr, if_neg hne, h.read hs x hx]
    · rw [put8_of_not_isRam hr, h.read hs x hx]

theorem ChangesOnly.storeByte (h : ChangesOnly A s u) {g o : Word} (ha : phys g o ∈ A) (v : Byte) :
    ChangesOnly A s (u.storeByte g o v) := h.put8 ha (phys_lt g o) v

theorem ChangesOnly.storeWord (h : ChangesOnly A s u) {g o : Word} (ha : u.wordAddrs g o ⊆ A) (v : Word) :
    ChangesOnly A s (u.storeWord g o v) :=
  (h.put8 (ha (by simp [State.wordAddrs])) (phys_lt g o) _).put8 (ha (by simp [State.wordAddrs])) (highAddr_lt u g o) _

/-! ### Operands -/

theorem ChangesOnly.writeRm8 (h : ChangesOnly A s u) {d : Rm8} (ha : u.operandAddrs8 d ⊆ A) {v : Byte}
    (hw : u.writeRm8 d v = .ok t) : ChangesOnly A s t := by
  obtain ⟨-, rfl⟩ := writeRm8_eq_ok.1 hw
  cases d with
  | reg r => exact h.then_mem rfl
  | mem m => exact h.storeByte (ha (List.mem_singleton_self _)) v

theorem ChangesOnly.writeRm16 (h : ChangesOnly A s u) {d : Rm16} (ha : u.operandAddrs16 d ⊆ A) {v : Word}
    (hw : u.writeRm16 d v = .ok t) : ChangesOnly A s t := by
  obtain ⟨-, rfl⟩ := writeRm16_eq_ok.1 hw
  cases d with
  | reg r => exact h.then_mem rfl
  | mem m => exact h.storeWord ha v

/-- An operation writes flags and draws free values, nothing else. -/
def FlagsOnly (s u : State) : Prop := ∃ f n, u = { s with flags := f, draws := n }

theorem FlagsOnly.mem (h : FlagsOnly s u) : u.mem = s.mem := by
  obtain ⟨f, n, rfl⟩ := h
  rfl

theorem FlagsOnly.operandAddrs8 (h : FlagsOnly s u) (d : Rm8) : u.operandAddrs8 d = s.operandAddrs8 d := by
  obtain ⟨f, n, rfl⟩ := h
  rfl

theorem FlagsOnly.operandAddrs16 (h : FlagsOnly s u) (d : Rm16) : u.operandAddrs16 d = s.operandAddrs16 d := by
  obtain ⟨f, n, rfl⟩ := h
  rfl

theorem sarCl_flagsOnly {n : Nat} (x : BitVec n) : FlagsOnly s (sarCl s x).2 := by
  unfold sarCl
  split <;> exact ⟨_, _, rfl⟩

theorem salCl_flagsOnly {n : Nat} (x : BitVec n) : FlagsOnly s (salCl s x).2 := by
  unfold salCl
  split <;> exact ⟨_, _, rfl⟩

/-! ### Shapes -/

/-- A meaning that reads something, then changes the state without writing memory. -/
theorem changesOnly_of_read {α : Type} {x : Res α} {f : α → State} (h : finish (x >>= fun a => pure (f a)) = .next t)
    (hf : ∀ a, x = .ok a → (f a).mem = s.mem) : ChangesOnly A s t := by
  obtain ⟨a, hx, h⟩ := bind_eq_ok.1 (finish_eq_next.1 h)
  cases h
  exact .of_mem (hf a hx)

theorem changesOnly_of_map_read {α : Type} {x : Res α} {f : α → State} (h : finish (f <$> x) = .next t)
    (hf : ∀ a, (f a).mem = s.mem) : ChangesOnly A s t := by
  obtain ⟨a, -, rfl⟩ := map_eq_ok.1 (finish_eq_next.1 h)
  exact .of_mem (hf a)

theorem changesOnly_of_next (h : (.next u : Host.Outcome State Fault Refusal) = .next t) (hm : u.mem = s.mem) :
    ChangesOnly A s t := by
  cases h
  exact .of_mem hm

theorem updRm8_changesOnly {op : Alu 8} {d : Rm8} {b : Byte} (h : updRm8 op d b s = .next t)
    (hop : ∀ a, FlagsOnly s (op s a b).2) : ChangesOnly (s.operandAddrs8 d) s t := by
  obtain ⟨a, -, h⟩ := bind_eq_ok.1 (finish_eq_next.1 h)
  exact (ChangesOnly.of_mem (hop a).mem).writeRm8 (fun _ hx => (hop a).operandAddrs8 d ▸ hx) h

theorem updRm16_changesOnly {op : Alu 16} {d : Rm16} {b : Word} (h : updRm16 op d b s = .next t)
    (hop : ∀ a, FlagsOnly s (op s a b).2) : ChangesOnly (s.operandAddrs16 d) s t := by
  obtain ⟨a, -, h⟩ := bind_eq_ok.1 (finish_eq_next.1 h)
  exact (ChangesOnly.of_mem (hop a).mem).writeRm16 (fun _ hx => (hop a).operandAddrs16 d ▸ hx) h

theorem unRm8_changesOnly {f : Una 8} {d : Rm8} (h : unRm8 f d s = .next t) (hf : ∀ a, FlagsOnly s (f s a).2) :
    ChangesOnly (s.operandAddrs8 d) s t := updRm8_changesOnly (op := fun s a _ => f s a) (b := 0) h hf

theorem unRm16_changesOnly {f : Una 16} {d : Rm16} (h : unRm16 f d s = .next t) (hf : ∀ a, FlagsOnly s (f s a).2) :
    ChangesOnly (s.operandAddrs16 d) s t := updRm16_changesOnly (op := fun s a _ => f s a) (b := 0) h hf

theorem cmpRm8_changesOnly {op : Alu 8} {d : Rm8} {b : Byte} (h : cmpRm8 op d b s = .next t)
    (hop : ∀ a, (op s a b).2.mem = s.mem) : ChangesOnly A s t := changesOnly_of_read h fun a _ => hop a

theorem cmpRm16_changesOnly {op : Alu 16} {d : Rm16} {b : Word} (h : cmpRm16 op d b s = .next t)
    (hop : ∀ a, (op s a b).2.mem = s.mem) : ChangesOnly A s t := changesOnly_of_read h fun a _ => hop a

theorem execXchgRm8R8_changesOnly {m : Rm8} {r : Reg8} (h : execXchgRm8R8 m r s = .next t) :
    ChangesOnly (s.operandAddrs8 m) s t := by
  obtain ⟨v, -, h⟩ := bind_eq_ok.1 (finish_eq_next.1 h)
  obtain ⟨u, hu, h⟩ := bind_eq_ok.1 h
  cases h
  exact ((ChangesOnly.refl s).writeRm8 (.refl _) hu).then_mem rfl

theorem execXchgRm16R16_changesOnly {m : Rm16} {r : Reg16} (h : execXchgRm16R16 m r s = .next t) :
    ChangesOnly (s.operandAddrs16 m) s t := by
  obtain ⟨v, -, h⟩ := bind_eq_ok.1 (finish_eq_next.1 h)
  obtain ⟨u, hu, h⟩ := bind_eq_ok.1 h
  cases h
  exact ((ChangesOnly.refl s).writeRm16 (.refl _) hu).then_mem rfl

/-! ### The stack -/

theorem pop16_mem {p : Word × State} (h : s.pop16 = .ok p) : p.2.mem = s.mem := by
  obtain ⟨-, rfl⟩ := pop16_eq_ok.1 h
  rfl

/-- The operand of POP is addressed after SP has moved, but SP is no address register (R129, R92). -/
theorem popRm16_changesOnly {d : Rm16} (h : popRm16 d s = .next t) : ChangesOnly (s.operandAddrs16 d) s t := by
  obtain ⟨p, hp, h⟩ := bind_eq_ok.1 (finish_eq_next.1 h)
  obtain ⟨-, rfl⟩ := pop16_eq_ok.1 hp
  exact ChangesOnly.writeRm16 (u := s.setReg16 .sp (s.regs.sp + 2)) (.of_mem rfl) (.refl _) h

theorem retFar_mem {v : Word} (h : retFar v s = .next t) : t.mem = s.mem := by
  obtain ⟨o, ho, h⟩ := bind_eq_ok.1 (finish_eq_next.1 h)
  obtain ⟨g, hg, h⟩ := bind_eq_ok.1 h
  cases h
  exact (pop16_mem hg).trans (pop16_mem ho)

theorem interruptReturn_mem (h : s.interruptReturn = .ok t) : t.mem = s.mem := by
  obtain ⟨-, rfl⟩ := interruptReturn_eq_ok.1 h
  rfl

theorem pushed_changesOnly {vs : List Word} {n : Nat} (hn : vs.length ≤ n) :
    ChangesOnly (s.pushAddrs n) s (s.pushed vs) := by
  induction vs using List.reverseRecOn with
  | nil => exact .refl s
  | append_singleton vs v ih =>
    rw [List.length_append, List.length_singleton] at hn
    have hsp : (s.pushed vs).regs.sp - 2 = s.regs.sp - 2 * BitVec.ofNat 16 (vs.length + 1) := by
      rw [pushed_sp, BitVec.ofNat_add]
      simp only [Regs.set]
      bv_omega
    rw [pushed_append]
    refine ChangesOnly.storeWord (u := (s.pushed vs).setReg16 .sp ((s.pushed vs).regs.sp - 2)) ((ih (by omega)).then_mem rfl) (fun a ha => ?_) v
    refine List.mem_flatMap.2 ⟨vs.length, List.mem_range.2 hn, ?_⟩
    rw [hsp] at ha
    simpa [State.wordAddrs, State.highAddr] using ha

theorem interrupt_changesOnly {n : Byte} {c o : Word} (h : s.interrupt n c o = .ok t) : ChangesOnly (s.pushAddrs 3) s t := by
  obtain ⟨-, rfl⟩ := interrupt_eq_ok.1 h
  exact (pushed_changesOnly (by simp)).then_mem (entered_mem s n c o)

theorem push16_changesOnly {v : Word} (h : s.push16 v = .ok t) : ChangesOnly (s.pushAddrs 1) s t := by
  obtain ⟨-, rfl⟩ := push16_eq_ok.1 h
  exact pushed_changesOnly (by simp)

theorem pushRm16_changesOnly {m : Rm16} (h : pushRm16 m s = .next t) : ChangesOnly (s.pushAddrs 1) s t := by
  obtain ⟨v, -, h⟩ := bind_eq_ok.1 (finish_eq_next.1 h)
  exact push16_changesOnly h

theorem callNear_changesOnly {v : Word} (h : callNear v s = .next t) : ChangesOnly (s.pushAddrs 1) s t := by
  obtain ⟨u, hu, h⟩ := bind_eq_ok.1 (finish_eq_next.1 h)
  cases h
  exact (push16_changesOnly hu).then_mem rfl

theorem callFarTo_changesOnly {g o : Word} (h : callFarTo g o s = .next t) : ChangesOnly (s.pushAddrs 2) s t := by
  obtain ⟨u, hu, h⟩ := bind_eq_ok.1 (finish_eq_next.1 h)
  obtain ⟨w, hw, h⟩ := bind_eq_ok.1 h
  obtain ⟨-, rfl⟩ := push16_eq_ok.1 hu
  obtain ⟨-, rfl⟩ := push16_eq_ok.1 hw
  cases h
  rw [← pushed_append]
  exact (pushed_changesOnly (by simp)).then_mem rfl

theorem execCallRm16_changesOnly {m : Rm16} (h : execCallRm16 m s = .next t) : ChangesOnly (s.pushAddrs 1) s t := by
  unfold execCallRm16 at h
  split at h
  · exact callNear_changesOnly h
  · cases h

theorem execCallM_changesOnly {m : MemOp} (h : execCallM m s = .next t) : ChangesOnly (s.pushAddrs 2) s t := by
  unfold execCallM at h
  split at h
  · exact callFarTo_changesOnly h
  · cases h

theorem execInto_changesOnly (h : execInto s = .next t) : ChangesOnly (s.pushAddrs 3) s t := by
  unfold execInto at h
  split at h
  · exact interrupt_changesOnly (finish_eq_next.1 h)
  · exact changesOnly_of_next h rfl

/-! ### String elements and their repetition -/

/-- The bytes of the `k`-th element at ES:DI (R237, R238). -/
def State.elementAddrs (s : State) (size k : Nat) : List Nat :=
  let off := s.regs.di + BitVec.ofNat 16 k * s.delta (BitVec.ofNat 16 size)
  if size = 1 then [phys s.segs.es off] else s.wordAddrs s.segs.es off

theorem elementAddrs_subset {size k : Nat} (hk : k < s.elements) : s.elementAddrs size k ⊆ s.stringAddrs size :=
  fun _ ha => List.mem_flatMap.2 ⟨k, List.mem_range.2 hk, ha⟩

/-- Before the `k`-th element: DI has moved `k` times, and only what belongs to the string has been stored to. -/
structure ElementAt (size : Nat) (s : State) (k : Nat) (u : State) : Prop where
  changes : ChangesOnly (s.stringAddrs size) s u
  di : u.regs.di = s.regs.di + BitVec.ofNat 16 k * s.delta (BitVec.ofNat 16 size)
  es : u.segs.es = s.segs.es
  df : u.flags.DF = s.flags.DF
  cfg : u.cfg = s.cfg

/-- An operation that stores one element at ES:DI and moves DI past it. -/
def StoresElement (size : Nat) (el : State → Res State) : Prop :=
  ∀ s k u v, ElementAt size s k u → k < s.elements → el u = .ok v → ElementAt size s (k + 1) v

theorem elementAt_zero (size : Nat) (s : State) : ElementAt size s 0 s where
  changes := .refl s
  di := by simp
  es := rfl
  df := rfl
  cfg := rfl

theorem ElementAt.di_next {size k : Nat} (h : ElementAt size s k u) :
    u.regs.di + u.delta (BitVec.ofNat 16 size) =
      s.regs.di + BitVec.ofNat 16 (k + 1) * s.delta (BitVec.ofNat 16 size) := by
  rw [State.delta, h.df, ← State.delta, h.di, BitVec.ofNat_add, BitVec.add_mul, BitVec.add_assoc]
  simp

theorem ElementAt.storeByte {k : Nat} (h : ElementAt 1 s k u) (hk : k < s.elements) (v : Byte) :
    ChangesOnly (s.stringAddrs 1) s (u.storeByte u.segs.es u.regs.di v) := by
  refine h.changes.storeByte (elementAddrs_subset hk ?_) v
  rw [h.es, h.di]
  exact List.mem_singleton_self _

theorem ElementAt.storeWord {k : Nat} (h : ElementAt 2 s k u) (hk : k < s.elements) (v : Word) :
    ChangesOnly (s.stringAddrs 2) s (u.storeWord u.segs.es u.regs.di v) := by
  refine h.changes.storeWord (fun a ha => elementAddrs_subset hk ?_) v
  rw [h.es, h.di] at ha
  simpa [State.elementAddrs, State.wordAddrs, State.highAddr, h.cfg] using ha

/-- What is left to do once the element is stored: DI moves, by the element's size. -/
theorem ElementAt.moveDi {size k : Nat} {w : State} (h : ElementAt size s k u)
    (hw : ChangesOnly (s.stringAddrs size) s w) (hdi : w.regs.di = u.regs.di) (hes : w.segs.es = u.segs.es)
    (hdf : w.flags.DF = u.flags.DF) (hcfg : w.cfg = u.cfg) :
    ElementAt size s (k + 1) (w.moveDi (BitVec.ofNat 16 size)) where
  changes := hw.then_mem rfl
  di := by
    rw [← h.di_next]
    simp [State.moveDi, Regs.set, State.delta, hdi, hdf]
  es := hes.trans h.es
  df := hdf.trans h.df
  cfg := hcfg.trans h.cfg

theorem movs8_storesElement : StoresElement 1 movs8 := by
  intro s k u v hu hk h
  obtain ⟨b, -, h⟩ := bind_eq_ok.1 h
  obtain ⟨w, hw, h⟩ := bind_eq_ok.1 h
  obtain ⟨-, rfl⟩ := memWrite8_eq_ok.1 hw
  cases h
  exact hu.moveDi ((hu.storeByte hk b).then_mem rfl) (by simp [State.moveSi, Regs.set]) (by simp [State.moveSi])
    (by simp [State.moveSi]) (by simp [State.moveSi])

theorem movs16_storesElement : StoresElement 2 movs16 := by
  intro s k u v hu hk h
  obtain ⟨b, -, h⟩ := bind_eq_ok.1 h
  obtain ⟨w, hw, h⟩ := bind_eq_ok.1 h
  obtain ⟨-, rfl⟩ := memWrite16_eq_ok.1 hw
  cases h
  exact hu.moveDi ((hu.storeWord hk b).then_mem rfl) (by simp [State.moveSi, Regs.set]) (by simp [State.moveSi])
    (by simp [State.moveSi]) (by simp [State.moveSi])

theorem stos8_storesElement : StoresElement 1 stos8 := by
  intro s k u v hu hk h
  obtain ⟨w, hw, h⟩ := bind_eq_ok.1 h
  obtain ⟨-, rfl⟩ := memWrite8_eq_ok.1 hw
  cases h
  exact hu.moveDi (hu.storeByte hk _) (by simp) (by simp) (by simp) (by simp)

theorem stos16_storesElement : StoresElement 2 stos16 := by
  intro s k u v hu hk h
  obtain ⟨w, hw, h⟩ := bind_eq_ok.1 h
  obtain ⟨-, rfl⟩ := memWrite16_eq_ok.1 hw
  cases h
  exact hu.moveDi (hu.storeWord hk _) (by simp) (by simp) (by simp) (by simp)

section Storing

variable {size : Nat} {el : State → Res State} {cond : Option RepKind} (hel : StoresElement size el)
include hel

theorem repOnce_storesElement : StoresElement size (repOnce el) := by
  intro s k u v hu hk h
  obtain ⟨w, hw, h⟩ := bind_eq_ok.1 h
  cases h
  obtain ⟨hch, hdi, hes, hdf, hcfg⟩ := hel s k u w hu hk hw
  exact ⟨hch.then_mem rfl, hdi, hes, hdf, hcfg⟩

theorem repLoop_changesOnly {n k : Nat} (hu : ElementAt size s k u) (hn : k + n ≤ s.elements)
    (h : repLoop el cond n u = .ok t) : ChangesOnly (s.stringAddrs size) s t := by
  induction n generalizing k u with
  | zero => cases h; exact hu.changes
  | succ n ih =>
    obtain ⟨v, hv, h⟩ := bind_eq_ok.1 h
    have hnext := repOnce_storesElement hel s k u v hu (by omega) hv
    split at h
    · cases h; exact hnext.changes
    · exact ih hnext (by omega) h

theorem repeated_changesOnly {j : Instr} (hr : s.pfx.rep ≠ none) (h : repeated j el cond s = .ok t) :
    ChangesOnly (s.stringAddrs size) s t := by
  unfold repeated at h
  split at h
  next hi =>
    obtain ⟨u, hu, h⟩ := bind_eq_ok.1 h
    have h1 := repOnce_storesElement hel s 0 s u (elementAt_zero size s) (by simp [State.elements, hi]) hu
    cases h
    split
    · exact h1.changes
    · exact h1.changes.then_mem rfl
  next hi => exact repLoop_changesOnly hel (elementAt_zero size s) (by simp [State.elements, hi, hr]) h

theorem plainRep_changesOnly {j : Instr} (h : plainRep j el s = .next t) : ChangesOnly (s.stringAddrs size) s t := by
  unfold plainRep at h
  split at h
  next hr =>
    exact (hel s 0 s t (elementAt_zero size s) (by simp [State.elements, hr]) (finish_eq_next.1 h)).changes
  next hr => exact repeated_changesOnly hel (by simp [hr]) (finish_eq_next.1 h)

end Storing

/-- An operation that stores nothing: CMPS, SCAS, LODS. -/
def ReadsElement (el : State → Res State) : Prop := ∀ u v, el u = .ok v → v.mem = u.mem

theorem cmps8_readsElement : ReadsElement cmps8 := by
  intro u v h
  obtain ⟨a, -, h⟩ := bind_eq_ok.1 h
  obtain ⟨b, -, h⟩ := bind_eq_ok.1 h
  cases h
  rfl

theorem cmps16_readsElement : ReadsElement cmps16 := by
  intro u v h
  obtain ⟨a, -, h⟩ := bind_eq_ok.1 h
  obtain ⟨b, -, h⟩ := bind_eq_ok.1 h
  cases h
  rfl

theorem scas8_readsElement : ReadsElement scas8 := by
  intro u v h
  obtain ⟨b, -, h⟩ := bind_eq_ok.1 h
  cases h
  rfl

theorem scas16_readsElement : ReadsElement scas16 := by
  intro u v h
  obtain ⟨b, -, h⟩ := bind_eq_ok.1 h
  cases h
  rfl

theorem lods8_readsElement : ReadsElement lods8 := by
  intro u v h
  obtain ⟨b, -, h⟩ := bind_eq_ok.1 h
  cases h
  rfl

theorem lods16_readsElement : ReadsElement lods16 := by
  intro u v h
  obtain ⟨b, -, h⟩ := bind_eq_ok.1 h
  cases h
  rfl

section Reading

variable {el : State → Res State} {cond : Option RepKind} {j : Instr} (hel : ReadsElement el)
include hel

theorem repOnce_readsElement : ReadsElement (repOnce el) := by
  intro u v h
  obtain ⟨w, hw, h⟩ := bind_eq_ok.1 h
  cases h
  exact hel u w hw

theorem repeated_mem (h : repeated j el cond s = .ok t) : t.mem = s.mem := by
  unfold repeated at h
  split at h
  · obtain ⟨u, hu, h⟩ := bind_eq_ok.1 h
    have hm := repOnce_readsElement hel s u hu
    cases h
    split <;> exact hm
  · exact repLoop_inv (·.mem = s.mem) (fun u v hu hv => (repOnce_readsElement hel u v hv).trans hu) rfl h

theorem plainRep_mem (h : plainRep j el s = .next t) : t.mem = s.mem := by
  unfold plainRep at h
  split at h
  · exact hel s t (finish_eq_next.1 h)
  · exact repeated_mem hel (finish_eq_next.1 h)

theorem condRep_mem (h : condRep j el s = .next t) : t.mem = s.mem := by
  unfold condRep at h
  split at h
  · exact hel s t (finish_eq_next.1 h)
  · exact repeated_mem hel (finish_eq_next.1 h)

end Reading

/-! ### Meanings with a case split that store nothing -/

theorem takeReply_mem (s : State) : s.takeReply.2.mem = s.mem := by
  obtain ⟨v, ws, -, h⟩ | ⟨-, h⟩ := takeReply_cases s <;> rw [h]

theorem jumpIf_mem {c : Bool} {d : Byte} (h : jumpIf c d s = .next t) : t.mem = s.mem := by
  cases h
  cases c <;> rfl

theorem loopIf_mem {c : Bool} {d : Byte} (h : loopIf c d s = .next t) : t.mem = s.mem := by
  cases h
  split <;> rfl

theorem execWait_mem (h : execWait s = .next t) : t.mem = s.mem := by
  unfold execWait at h
  split at h <;> cases h <;> rfl

/-- What records itself, or is refused. -/
theorem recorded_mem {c : Prop} [Decidable c] {r : Refusal}
    (h : (if c then .refused r else .next u : Host.Outcome State Fault Refusal) = .next t) (hm : u.mem = s.mem) : t.mem = s.mem := by
  split at h
  · cases h
  · cases h
    exact hm

/-! ### Every instruction -/

/-- Whatever instruction runs, it stores to no byte outside its list: one line for the instructions of a shape. -/
theorem exec_changesOnly (h : exec i s = .next t) : ChangesOnly (s.stores i) s t := by
  cases i <;> dsimp only [exec] at h
  case addRm8R8 | addRm8Imm8 | addAlImm8 | adcRm8R8 | adcRm8Imm8 | adcAlImm8 | subRm8R8 | subRm8Imm8 | subAlImm8 | sbbRm8R8
      | sbbRm8Imm8 | sbbAlImm8 | orRm8R8 | orRm8Imm8 | orAlImm8 | andRm8R8 | andRm8Imm8 | andAlImm8 | xorRm8R8 | xorRm8Imm8
      | xorAlImm8 => exact updRm8_changesOnly h fun _ => ⟨_, _, rfl⟩
  case addRm16R16 | addRm16Imm16 | addAxImm16 | addRm16Imm8 | adcRm16R16 | adcRm16Imm16 | adcAxImm16 | adcRm16Imm8
      | subRm16R16 | subRm16Imm16 | subAxImm16 | subRm16Imm8 | sbbRm16R16 | sbbRm16Imm16 | sbbAxImm16 | sbbRm16Imm8
      | orRm16R16 | orRm16Imm16 | orAxImm16 | andRm16R16 | andRm16Imm16 | andAxImm16 | xorRm16R16 | xorRm16Imm16
      | xorAxImm16 => exact updRm16_changesOnly h fun _ => ⟨_, _, rfl⟩
  case addR8Rm8 | adcR8Rm8 | subR8Rm8 | sbbR8Rm8 | orR8Rm8 | andR8Rm8 | xorR8Rm8 | addR16Rm16 | adcR16Rm16 | subR16Rm16
      | sbbR16Rm16 | orR16Rm16 | andR16Rm16 | xorR16Rm16 | cmpR8Rm8 | cmpR16Rm16 | mulRm8 | imulRm8 | mulRm16 | imulRm16
      | les | lds | jmpM => exact changesOnly_of_read h fun _ _ => rfl
  case cmpRm8R8 | cmpRm8Imm8 | cmpAlImm8 | testRm8R8 | testRm8Imm8 | testAlImm8 => exact cmpRm8_changesOnly h fun _ => rfl
  case cmpRm16R16 | cmpRm16Imm16 | cmpAxImm16 | cmpRm16Imm8 | testRm16R16 | testRm16Imm16 | testAxImm16 =>
    exact cmpRm16_changesOnly h fun _ => rfl
  case incRm8 | decRm8 | negRm8 | notRm8 | rolRm8One | rorRm8One | rclRm8One | rcrRm8One | salRm8One | shrRm8One | sarRm8One
      | rolRm8Cl | rorRm8Cl | rclRm8Cl | rcrRm8Cl | shrRm8Cl => exact unRm8_changesOnly h fun _ => ⟨_, _, rfl⟩
  case incR16 | incRm16 | decR16 | decRm16 | negRm16 | notRm16 | rolRm16One | rorRm16One | rclRm16One | rcrRm16One
      | salRm16One | shrRm16One | sarRm16One | rolRm16Cl | rorRm16Cl | rclRm16Cl | rcrRm16Cl | shrRm16Cl =>
    exact unRm16_changesOnly h fun _ => ⟨_, _, rfl⟩
  case sarRm8Cl => exact unRm8_changesOnly h sarCl_flagsOnly
  case sarRm16Cl => exact unRm16_changesOnly h sarCl_flagsOnly
  case salRm8Cl => exact unRm8_changesOnly h salCl_flagsOnly
  case salRm16Cl => exact unRm16_changesOnly h salCl_flagsOnly
  case divRm8 | divRm16 | idivRm8 | idivRm16 =>
    obtain ⟨d, -, h⟩ := bind_eq_ok.1 (finish_eq_next.1 h)
    split at h
    · exact interrupt_changesOnly h
    · cases h
      exact .of_mem rfl
  case daa | das | aaa | aas | aam | aad | movR8Imm8 | movR16Imm16 | lea | cbw | cwd | lahf | sahf | xchgAxCx | xchgAxDx
      | xchgAxBx | xchgAxSp | xchgAxBp | xchgAxSi | xchgAxDi | outImm8Al | outImm8Ax | outDxAl | outDxAx | esc | jmpRel8
      | jmpRel16 | jmpFar | nop | hlt | cmc | clc | stc | cld | std | cli | sti => exact changesOnly_of_next h rfl
  case inAlImm8 | inAlDx | inAxImm8 | inAxDx => exact changesOnly_of_next h (takeReply_mem s)
  case pushEs | pushCs | pushSs | pushDs | pushf => exact push16_changesOnly (finish_eq_next.1 h)
  case pushR16 | pushRm16 => exact pushRm16_changesOnly h
  case popEs | popSs | popDs | popf | retNear | retNearImm16 => exact changesOnly_of_read h fun _ hp => pop16_mem hp
  case popR16 | popRm16 => exact popRm16_changesOnly h
  case xchgRm8R8 => exact execXchgRm8R8_changesOnly h
  case xchgRm16R16 => exact execXchgRm16R16_changesOnly h
  case movRm8R8 | movRm8Imm8 => exact (ChangesOnly.refl s).writeRm8 (.refl _) (finish_eq_next.1 h)
  case movRm16R16 | movRm16Imm16 | movRm16Sreg => exact (ChangesOnly.refl s).writeRm16 (.refl _) (finish_eq_next.1 h)
  case movR8Rm8 | movR16Rm16 | movEsRm16 | movSsRm16 | movDsRm16 | jmpRm16 | movAlM8 | movAxM16 | xlatb =>
    exact changesOnly_of_map_read h fun _ => rfl
  case movM8Al =>
    obtain ⟨-, rfl⟩ := memWrite8_eq_ok.1 (finish_eq_next.1 h)
    exact (ChangesOnly.refl s).storeByte (List.mem_singleton_self _) _
  case movM16Ax =>
    obtain ⟨-, rfl⟩ := memWrite16_eq_ok.1 (finish_eq_next.1 h)
    exact (ChangesOnly.refl s).storeWord (.refl _) _
  case jo | jno | jb | jnb | je | jne | jbe | jnbe | js | jns | jp | jnp | jl | jnl | jle | jnle | jcxz =>
    exact .of_mem (jumpIf_mem h)
  case loopne | loope | loop => exact .of_mem (loopIf_mem h)
  case callRel16 => exact callNear_changesOnly h
  case callFar => exact callFarTo_changesOnly h
  case callRm16 => exact execCallRm16_changesOnly h
  case callM => exact execCallM_changesOnly h
  case retFar | retFarImm16 => exact .of_mem (retFar_mem h)
  case int3 | int => exact interrupt_changesOnly (finish_eq_next.1 h)
  case into => exact execInto_changesOnly h
  case iret => exact .of_mem (interruptReturn_mem (finish_eq_next.1 h))
  case movsb => exact plainRep_changesOnly movs8_storesElement h
  case movsw => exact plainRep_changesOnly movs16_storesElement h
  case stosb => exact plainRep_changesOnly stos8_storesElement h
  case stosw => exact plainRep_changesOnly stos16_storesElement h
  case cmpsb => exact .of_mem (condRep_mem cmps8_readsElement h)
  case cmpsw => exact .of_mem (condRep_mem cmps16_readsElement h)
  case scasb => exact .of_mem (condRep_mem scas8_readsElement h)
  case scasw => exact .of_mem (condRep_mem scas16_readsElement h)
  case lodsb => exact .of_mem (plainRep_mem lods8_readsElement h)
  case lodsw => exact .of_mem (plainRep_mem lods16_readsElement h)
  case segEs | segCs | segSs | segDs | rep | repne | lock => exact .of_mem (recorded_mem h rfl)
  case wait => exact .of_mem (execWait_mem h)
  case unused => cases h

/-- Settles O59: the memory part of what an instruction may change. -/
theorem memoryFrame : Obligations.MemoryFrame := fun _ _ _ hs h => (exec_changesOnly h).read hs

end Sys2Proof.Machine
end

section
/-! SUPPORT. What the data transfer instructions do (40_data_transfer R120 to R146): one rule per shape of meaning, when the operand or
the stack word is declared, and the facts about the DS operand, FLAGS, sign extension and the ports that the statements turn on. -/

namespace Sys2Proof.Machine

variable {s : State}

/-! ### Outcomes that complete -/

/-- A meaning that reads one operand and then updates the state. -/
theorem finish_map_of_ok {α : Type} {x : Res α} {a : α} (h : x = .ok a) (f : α → State) : finish (f <$> x) = .next (f a) :=
  finish_eq_next.2 (map_eq_ok.2 ⟨a, h, rfl⟩)

/-! ### MOV and XCHG (R120 to R125) -/

/-- Settles O24: one read or one write of an operand that is there. -/
theorem movForms : Obligations.MovForms := by
  intro s
  refine ⟨fun d r h => ?movRm8R8, fun d r h => ?movRm16R16, fun r m h => ?movR8Rm8, fun r m h => ?movR16Rm16,
    fun r b => rfl, fun r w => rfl, fun d b h => ?movRm8Imm8, fun d w h => ?movRm16Imm16⟩
  case movRm8R8 | movRm8Imm8 => exact finish_eq_next.2 (writeRm8_ok h _)
  case movRm16R16 | movRm16Imm16 => exact finish_eq_next.2 (writeRm16_ok h _)
  case movR8Rm8 => exact finish_map_of_ok (readRm8_ok h) _
  case movR16Rm16 => exact finish_map_of_ok (readRm16_ok h) _

/-- The segment of a DS operand: the overriding segment register if there is one, else DS (R98, R141). -/
theorem dataSeg_eq {g : Word} (hsome : ∀ q, s.pfx.seg = some q → g = s.sreg q) (hnone : s.pfx.seg = none → g = s.segs.ds) :
    s.dataSeg = g := by
  unfold State.dataSeg
  cases hq : s.pfx.seg with
  | none => exact (hnone hq).symm
  | some q => exact (hsome q hq).symm

/-- Settles O25: MOV as in O24, the direct offset taken in `State.dataSeg`. -/
theorem movSegmentAndDirect : Obligations.MovSegmentAndDirect := by
  intro s
  refine ⟨fun d q h => finish_eq_next.2 (writeRm16_ok h _), fun m h => ?_, fun g o hg => ?_⟩
  · have hread := readRm16_ok h
    exact ⟨finish_map_of_ok hread _, finish_map_of_ok hread _, finish_map_of_ok hread _⟩
  · obtain rfl : s.dataSeg = g := dataSeg_eq (fun q hq => by rw [hg, hq]) (fun hq => by rw [hg, hq])
    exact ⟨fun h => ⟨finish_map_of_ok (memRead8_ok h) _, finish_eq_next.2 (memWrite8_ok h _)⟩,
      fun h => ⟨finish_map_of_ok (memRead16_ok h) _, finish_eq_next.2 (memWrite16_ok h _)⟩⟩

/-- Settles O26: the operand is read, written with the register, and only then does the register change. -/
theorem xchgForms : Obligations.XchgForms := by
  intro s
  refine ⟨fun m r h => ?_, fun m r h => ?_, rfl, rfl, rfl, rfl, rfl, rfl, rfl⟩
  · simp [exec, execXchgRm8R8, readRm8_ok h, writeRm8_ok h]
  · simp [exec, execXchgRm16R16, readRm16_ok h, writeRm16_ok h]

/-! ### The stack (R126 to R133) -/

/-- What PUSH r/m16 stores: the operand, but for SP its decremented value (R126, R127). -/
theorem pushOperand_ok {m : Rm16} (h : s.hasRm16 m) :
    s.pushOperand m = .ok (if m = .reg .sp then s.regs.sp - 2 else s.rm16 m) := by
  unfold State.pushOperand
  split
  · rfl
  · exact readRm16_ok h

theorem push16_next (h : s.canPush 1) (v : Word) : finish (s.push16 v) = .next (s.pushed [v]) :=
  finish_eq_next.2 (push16_ok (canPush_one.1 h))

theorem pushRm16_next (h : s.canPush 1) {m : Rm16} (hm : s.hasRm16 m) :
    pushRm16 m s = .next (s.pushed [if m = .reg .sp then s.regs.sp - 2 else s.rm16 m]) := by
  rw [pushRm16, pushOperand_ok hm]
  exact push16_next h _

/-- Settles O27: PUSH r16 is PUSH r/m16 of a register. -/
theorem pushForms : Obligations.PushForms := by
  intro s h
  refine ⟨fun r => ?_, fun m hm => pushRm16_next h hm, push16_next h _, push16_next h _, push16_next h _, push16_next h _,
    push16_next h _⟩
  have hr : exec (.pushR16 r) s = _ := pushRm16_next h (m := .reg r) trivial
  simpa only [Rm16.reg.injEq, State.rm16] using hr

/-- A pop reads the top word and moves SP past it (R63). -/
theorem pop16_of_canPop (h : s.canPop 1) : s.pop16 = .ok (s.stackWord 0, s.popped 1) := by
  simpa [State.stackWord, State.popped] using pop16_ok (canPop_one.1 h)

/-- SP takes part in no address (R93), so a pop moves no operand. -/
theorem hasRm16_popped {d : Rm16} {n : Nat} : (s.popped n).hasRm16 d ↔ s.hasRm16 d := by
  cases d with
  | reg r => exact Iff.rfl
  | mem m => cases m with
    | abs d => exact Iff.rfl
    | ind b | ind8 b d | ind16 b d => cases b <;> exact Iff.rfl

theorem popRm16_next (h : s.canPop 1) {d : Rm16} (hd : s.hasRm16 d) :
    popRm16 d s = .next ((s.popped 1).putRm16 d (s.stackWord 0)) := by
  rw [popRm16, pop16_of_canPop h]
  exact finish_eq_next.2 (writeRm16_ok (hasRm16_popped.2 hd) _)

theorem popSreg_next (h : s.canPop 1) (q : SReg) : popSreg q s = .next ((s.popped 1).setSreg q (s.stackWord 0)) := by
  rw [popSreg, pop16_of_canPop h]
  rfl

theorem execPopf_next (h : s.canPop 1) : execPopf s = .next ((s.popped 1).setFlags (Flags.ofWord (s.stackWord 0))) := by
  rw [execPopf, pop16_of_canPop h]
  rfl

/-- Settles O28: POP r16 is POP r/m16 of a register; the flags that POPF loads read back as R19 says. -/
theorem popForms : Obligations.PopForms := by
  intro s h
  exact ⟨fun r => popRm16_next h (d := .reg r) trivial, fun d hd => popRm16_next h hd, popSreg_next h .es, popSreg_next h .ss,
    popSreg_next h .ds, Flags.ofWord (s.stackWord 0), execPopf_next h, Flags.toWord_ofWord _⟩

/-! ### The low byte of FLAGS, and sign extension (R134, R135, R140, R146) -/

/-- The low byte of FLAGS as a sum of the weights of its bits, bit by bit. -/
theorem testBit_flagByte : ∀ (SF ZF AF PF CF : Bool) (k : Fin 8),
    (128 * SF.toNat + 64 * ZF.toNat + 16 * AF.toNat + 4 * PF.toNat + 2 + CF.toNat).testBit k =
      [CF, true, PF, false, AF, false, ZF, SF].getD k false := by decide

theorem Flags.loByte_toWord (f : Flags) : loByte f.toWord =
    BitVec.ofNat 8 (128 * f.SF.toNat + 64 * f.ZF.toNat + 16 * f.AF.toNat + 4 * f.PF.toNat + 2 + f.CF.toNat) := by
  refine BitVec.eq_of_getLsbD_eq fun k hk => ?_
  have hbit := testBit_flagByte f.SF f.ZF f.AF f.PF f.CF ⟨k, hk⟩
  rw [BitVec.getLsbD_ofNat, decide_eq_true hk, Bool.true_and, hbit, loByte, BitVec.getLsbD_extractLsb', decide_eq_true hk,
    Bool.true_and, Nat.zero_add, Flags.toWord_getLsbD]
  interval_cases k <;> rfl

/-- Sign extension to the double width puts copies of the sign bit before the value. -/
theorem signExtend_double {n : Nat} (x : BitVec n) :
    x.signExtend (n + n) = (if x.msb then BitVec.allOnes n else 0#n) ++ x := by
  refine BitVec.eq_of_getLsbD_eq fun k hk => ?_
  rw [BitVec.getLsbD_signExtend, BitVec.getLsbD_append]
  split
  · simp [hk]
  · have hlt : k - n < n := by omega
    cases x.msb <;> simp [hk, hlt]

/-- CBW: AX becomes AL as a signed number, AH copies of its sign (R140). -/
theorem setReg16_ax_sext16 (s : State) : s.setReg16 .ax (sext16 (s.reg8 .al)) =
    s.setReg8 .ah (if (s.reg8 .al).getLsbD 7 then 0xFF else 0x00) :=
  congrArg (s.setReg16 .ax) (signExtend_double (s.reg8 .al))

/-- Settles O29: the new AX and DX:AX are the sign extensions, and those keep the signed value. -/
theorem flagByteAndSignExtension : Obligations.FlagByteAndSignExtension := by
  intro s
  refine ⟨?lahf, rfl, ⟨_, rfl, setReg16_ax_sext16 s, ?cbw⟩, ⟨_, rfl, rfl, ?cwd⟩⟩
  case lahf => exact congrArg (fun b => Host.Outcome.next (s.setReg8 .ah b)) s.flags.loByte_toWord
  case cbw => exact BitVec.toInt_signExtend_of_le (by decide)
  case cwd =>
    have hcwd := congrArg BitVec.toInt (signExtend_double s.regs.ax)
    exact hcwd.symm.trans (BitVec.toInt_signExtend_of_le (by decide))

/-! ### Addresses and pointers (R136 to R141) -/

theorem loadFar_next {m : MemOp} (h : s.hasFar m) (q : SReg) (r : Reg16) :
    loadFar q r m s = .next ((s.setReg16 r (s.farOff m)).setSreg q (s.farSel m)) := by
  rw [loadFar, readFar_ok h]
  rfl

theorem zext16_eq_ofNat (b : Byte) : zext16 b = BitVec.ofNat 16 b.toNat := (BitVec.ofNat_toNat 16 b).symm

/-- The table address of XLATB: BX plus AL, which is not signed (R141). -/
theorem add_zext16 (w : Word) (b : Byte) : w + zext16 b = BitVec.ofNat 16 (w.toNat + b.toNat) := by
  rw [BitVec.ofNat_add, BitVec.ofNat_toNat, BitVec.setWidth_eq, zext16_eq_ofNat]

/-- Settles O30: LEA computes, LDS and LES read the pointer of the old state, XLATB reads in `State.dataSeg`. -/
theorem addressAndPointerLoads : Obligations.AddressAndPointerLoads := by
  intro s
  refine ⟨fun r m => rfl, fun r m h => ⟨loadFar_next h .ds r, loadFar_next h .es r⟩, fun g o hg ho h => ?_⟩
  obtain rfl : s.dataSeg = g := dataSeg_eq (fun q hq => by rw [hg, hq]) (fun hq => by rw [hg, hq])
  obtain rfl := ho.trans (add_zext16 s.regs.bx (s.reg8 .al)).symm
  exact finish_map_of_ok (memRead8_ok h) _

/-! ### Ports (R142 to R145) -/

/-- A port read takes the head of the answers when there is one, and otherwise answers some value. -/
theorem takeReply_eq (s : State) : ∃ v n, (∀ w ws, s.ioReplies = w :: ws → v = w ∧ n = s.draws) ∧
    s.takeReply = (v, { s with ioReplies := s.ioReplies.tail, draws := n }) := by
  obtain ⟨v, ws, hlist, htake⟩ | ⟨hlist, htake⟩ := takeReply_cases s
  · refine ⟨v, s.draws, fun w ws' h => ?_, by rw [htake, hlist, List.tail_cons]⟩
    obtain ⟨rfl, -⟩ := List.cons.inj (hlist.symm.trans h)
    exact ⟨rfl, rfl⟩
  · exact ⟨_, s.draws + 1, fun w ws h => by simp [hlist] at h, by rw [htake, hlist, List.tail_nil, ← hlist]⟩

theorem inAl_next {u : State} {v : Word} (h : s.takeReply = (v, u)) (port : Word) :
    inAl port s = .next ((u.emit (.ioRead8 port (v.truncate 8))).setReg8 .al (v.truncate 8)) := by
  rw [inAl, State.ioRead8, h, ← loByte_eq_truncate]

theorem inAx_next {u : State} {v : Word} (h : s.takeReply = (v, u)) (port : Word) :
    inAx port s = .next ((u.emit (.ioRead16 port v)).setReg16 .ax v) := by
  rw [inAx, State.ioRead16, h]

/-- Settles O31: both port forms are `inAl` and `inAx` at that port, and one event for OUT. -/
theorem inputOutput : Obligations.InputOutput := by
  intro s p port i8 i16 o8 o16 hport
  obtain ⟨v, n, hv, htake⟩ := takeReply_eq s
  obtain ⟨hp, rfl, rfl, rfl, rfl⟩ | ⟨rfl, rfl, rfl, rfl, rfl⟩ := hport
  · obtain rfl := hp.trans (zext16_eq_ofNat p).symm
    exact ⟨⟨v, n, hv, inAl_next htake _, inAx_next htake _⟩, rfl, rfl⟩
  · exact ⟨⟨v, n, hv, inAl_next htake _, inAx_next htake _⟩, rfl, rfl⟩

end Sys2Proof.Machine
end

section
/-! SUPPORT. The instructions with two operands (41_arithmetic R160 to R165, 42_logic_bcd R190 to R193): the machine's operation of each
kind answers the result and the flags of the spec's formulas, and every form is that operation on its operands. -/

namespace Sys2Proof.Machine

/-! ### The operation of a kind -/

/-- The machine's operation of a kind. -/
def AluKind.op {n : Nat} : AluKind → Alu n
  | .add => addOp
  | .adc => adcOp
  | .sub | .cmp => subOp
  | .sbb => sbbOp
  | .and => andOp
  | .or => orOp
  | .xor => xorOp

variable {s : State}

/-- The operation changes the flags and, to draw the AF of the logical ones, the count of drawn values: nothing else. -/
theorem AluKind.op_eq {n : Nat} (hn : 0 < n) (k : AluKind) (s : State) (a b : BitVec n) :
    ∃ af m, k.op s a b = (k.result s.flags a b, { s with flags := k.flags s.flags a b af, draws := m }) := by
  cases k with
  | add | adc => exact ⟨false, s.draws, by simp only [op, addOp, adcOp, addFlags_eq hn]; rfl⟩
  | sub | sbb | cmp => exact ⟨false, s.draws, by simp only [op, subOp, sbbOp, subFlags_eq hn]; rfl⟩
  | and | or | xor =>
    exact ⟨s.freeFlag 0, s.draws + 1, by simp only [op, andOp, orOp, xorOp, logicOp, logicFlags_eq hn]; rfl⟩

/-! ### The shapes of a kind -/

/-- `op r/m8, b`: CMP drops the result. -/
def AluKind.runRm8 (k : AluKind) (d : Rm8) (b : Byte) (s : State) : Host.Outcome State Fault Refusal :=
  if k.writes then updRm8 k.op d b s else cmpRm8 k.op d b s

/-- `op r/m16, b`: CMP drops the result. -/
def AluKind.runRm16 (k : AluKind) (d : Rm16) (b : Word) (s : State) : Host.Outcome State Fault Refusal :=
  if k.writes then updRm16 k.op d b s else cmpRm16 k.op d b s

/-- `op r8, r/m8`: CMP drops the result. -/
def AluKind.runR8 (k : AluKind) (r : Reg8) (m : Rm8) (s : State) : Host.Outcome State Fault Refusal :=
  if k.writes then updR8 k.op r m s else cmpR8 k.op r m s

/-- `op r16, r/m16`: CMP drops the result. -/
def AluKind.runR16 (k : AluKind) (r : Reg16) (m : Rm16) (s : State) : Host.Outcome State Fault Refusal :=
  if k.writes then updR16 k.op r m s else cmpR16 k.op r m s

theorem AluKind.runRm8_next (k : AluKind) {d : Rm8} (h : s.hasRm8 d) (b : Byte) :
    ∃ af n, k.runRm8 d b s = .next (k.after8 s d b af n) := by
  obtain ⟨af, n, hop⟩ := k.op_eq (by decide) s (s.rm8 d) b
  refine ⟨af, n, ?_⟩
  unfold runRm8 after8
  split
  · rw [updRm8_next h (hop ▸ samePlaces_flags _ _), hop]
  · rw [cmpRm8_next h, hop]

theorem AluKind.runRm16_next (k : AluKind) {d : Rm16} (h : s.hasRm16 d) (b : Word) :
    ∃ af n, k.runRm16 d b s = .next (k.after16 s d b af n) := by
  obtain ⟨af, n, hop⟩ := k.op_eq (by decide) s (s.rm16 d) b
  refine ⟨af, n, ?_⟩
  unfold runRm16 after16
  split
  · rw [updRm16_next h (hop ▸ samePlaces_flags _ _), hop]
  · rw [cmpRm16_next h, hop]

theorem AluKind.runR8_next (k : AluKind) (r : Reg8) {m : Rm8} (h : s.hasRm8 m) :
    ∃ af n, k.runR8 r m s = .next (k.after8 s (.reg r) (s.rm8 m) af n) := by
  obtain ⟨af, n, hop⟩ := k.op_eq (by decide) s (s.reg8 r) (s.rm8 m)
  refine ⟨af, n, ?_⟩
  unfold runR8 after8
  split
  · rw [updR8_next h, hop]; rfl
  · rw [cmpR8_next h, hop]; rfl

theorem AluKind.runR16_next (k : AluKind) (r : Reg16) {m : Rm16} (h : s.hasRm16 m) :
    ∃ af n, k.runR16 r m s = .next (k.after16 s (.reg r) (s.rm16 m) af n) := by
  obtain ⟨af, n, hop⟩ := k.op_eq (by decide) s (s.reg16 r) (s.rm16 m)
  refine ⟨af, n, ?_⟩
  unfold runR16 after16
  split
  · rw [updR16_next h, hop]; rfl
  · rw [cmpR16_next h, hop]; rfl

/-! ### The forms of a kind -/

theorem AluKind.exec_rm8R8 (k : AluKind) (d : Rm8) (r : Reg8) : exec (k.rm8R8 d r) s = k.runRm8 d (s.reg8 r) s := by
  cases k <;> rfl

theorem AluKind.exec_rm16R16 (k : AluKind) (d : Rm16) (r : Reg16) :
    exec (k.rm16R16 d r) s = k.runRm16 d (s.reg16 r) s := by
  cases k <;> rfl

theorem AluKind.exec_r8Rm8 (k : AluKind) (r : Reg8) (m : Rm8) : exec (k.r8Rm8 r m) s = k.runR8 r m s := by
  cases k <;> rfl

theorem AluKind.exec_r16Rm16 (k : AluKind) (r : Reg16) (m : Rm16) : exec (k.r16Rm16 r m) s = k.runR16 r m s := by
  cases k <;> rfl

theorem AluKind.exec_alImm8 (k : AluKind) (b : Byte) : exec (k.alImm8 b) s = k.runRm8 (.reg .al) b s := by
  cases k <;> rfl

theorem AluKind.exec_axImm16 (k : AluKind) (w : Word) : exec (k.axImm16 w) s = k.runRm16 (.reg .ax) w s := by
  cases k <;> rfl

theorem AluKind.exec_rm8Imm8 (k : AluKind) (d : Rm8) (b : Byte) : exec (k.rm8Imm8 d b) s = k.runRm8 d b s := by
  cases k <;> rfl

theorem AluKind.exec_rm16Imm16 (k : AluKind) (d : Rm16) (w : Word) : exec (k.rm16Imm16 d w) s = k.runRm16 d w s := by
  cases k <;> rfl

/-- The immediate byte is sign-extended (R97, R160). -/
theorem AluKind.exec_rm16Imm8 {k : AluKind} {i : Rm16 → Byte → Instr} (hi : k.rm16Imm8 = some i) (d : Rm16) (b : Byte) :
    exec (i d b) s = k.runRm16 d (BitVec.ofInt 16 b.toInt) s := by
  cases k with
  | and | or | xor => cases hi
  | add | adc | sub | sbb | cmp => cases hi; rfl

/-- All forms of every kind: each runs the kind's operation on its operands. -/
theorem AluKind.forms (k : AluKind) : k.Forms := by
  intro s
  refine ⟨fun d r h => ?rm8R8, fun d r h => ?rm16R16, fun r m h => ?r8Rm8, fun r m h => ?r16Rm16, fun b => ?alImm8,
    fun w => ?axImm16, fun d b h => ?rm8Imm8, fun d w h => ?rm16Imm16, fun i d b hi h => ?rm16Imm8⟩
  case rm8R8 => exact k.exec_rm8R8 d r ▸ k.runRm8_next h _
  case rm16R16 => exact k.exec_rm16R16 d r ▸ k.runRm16_next h _
  case r8Rm8 => exact k.exec_r8Rm8 r m ▸ k.runR8_next r h
  case r16Rm16 => exact k.exec_r16Rm16 r m ▸ k.runR16_next r h
  case alImm8 => exact k.exec_alImm8 b ▸ k.runRm8_next (d := .reg .al) trivial b
  case axImm16 => exact k.exec_axImm16 w ▸ k.runRm16_next (d := .reg .ax) trivial w
  case rm8Imm8 => exact k.exec_rm8Imm8 d b ▸ k.runRm8_next h b
  case rm16Imm16 => exact k.exec_rm16Imm16 d w ▸ k.runRm16_next h w
  case rm16Imm8 => exact exec_rm16Imm8 hi d b ▸ k.runRm16_next h _

/-- Settles O11, from the forms of every kind. -/
theorem addForms : Obligations.AddForms := ⟨AluKind.forms .add, AluKind.forms .adc⟩

/-- Settles O12, from the forms of every kind. -/
theorem subtractForms : Obligations.SubtractForms := ⟨AluKind.forms .sub, AluKind.forms .sbb, AluKind.forms .cmp⟩

end Sys2Proof.Machine
end

section
/-! SUPPORT. The instructions with one operand that read it, compute and write it back (41_arithmetic R166 to R168, 42_logic_bcd R194). -/

namespace Sys2Proof.Machine

variable {s : State}

theorem incOp_eq {n : Nat} (hn : 0 < n) (s : State) (a : BitVec n) :
    incOp s a = (sumOf a 1#n 0, { s with flags := { sumFlags s.flags a 1#n 0 with CF := s.flags.CF } }) := by
  rw [incOp, addFlags_eq hn]
  rfl

theorem decOp_eq {n : Nat} (hn : 0 < n) (s : State) (a : BitVec n) :
    decOp s a = (differenceOf a 1#n 0, { s with flags := { differenceFlags s.flags a 1#n 0 with CF := s.flags.CF } }) := by
  rw [decOp, subFlags_eq hn]
  rfl

theorem negOp_eq {n : Nat} (hn : 0 < n) (s : State) (a : BitVec n) :
    negOp s a = (differenceOf 0#n a 0, { s with flags := differenceFlags s.flags 0#n a 0 }) := by
  rw [negOp, subFlags_eq hn]
  rfl

theorem notOp_eq {n : Nat} (s : State) (a : BitVec n) : notOp s a = (a ^^^ BitVec.allOnes n, s) := by
  rw [notOp, BitVec.xor_allOnes]

/-- An instruction on a byte whose operation writes nothing but flags. -/
theorem unRm8_of_eq {f : Una 8} {d : Rm8} {v : Byte} {g : Flags} (h : s.hasRm8 d)
    (hf : f s (s.rm8 d) = (v, { s with flags := g })) : unRm8 f d s = .next (({ s with flags := g } : State).putRm8 d v) := by
  rw [unRm8_next h (hf ▸ samePlaces_flags g s.draws), hf]

/-- An instruction on a word whose operation writes nothing but flags. -/
theorem unRm16_of_eq {f : Una 16} {d : Rm16} {v : Word} {g : Flags} (h : s.hasRm16 d)
    (hf : f s (s.rm16 d) = (v, { s with flags := g })) : unRm16 f d s = .next (({ s with flags := g } : State).putRm16 d v) := by
  rw [unRm16_next h (hf ▸ samePlaces_flags g s.draws), hf]

/-- Settles O14: INC r16 and DEC r16 are INC r/m16 and DEC r/m16 of a register; NOT inverts by an exclusive or with ones. -/
theorem unaryForms : Obligations.UnaryForms := by
  intro s
  have h8 : 0 < 8 := by decide
  have h16 : 0 < 16 := by decide
  refine ⟨fun r => ?register, fun d x h hx => ?byte, fun d x h hx => ?word⟩
  case register =>
    exact ⟨unRm16_of_eq (d := .reg r) trivial (incOp_eq h16 s _), unRm16_of_eq (d := .reg r) trivial (decOp_eq h16 s _)⟩
  case byte =>
    subst hx
    exact ⟨unRm8_of_eq h (incOp_eq h8 s _), unRm8_of_eq h (decOp_eq h8 s _), unRm8_of_eq h (negOp_eq h8 s _),
      unRm8_of_eq h (notOp_eq s _)⟩
  case word =>
    subst hx
    exact ⟨unRm16_of_eq h (incOp_eq h16 s _), unRm16_of_eq h (decOp_eq h16 s _), unRm16_of_eq h (negOp_eq h16 s _),
      unRm16_of_eq h (notOp_eq s _)⟩

end Sys2Proof.Machine
end

section
/-! SUPPORT. Products and quotients (41_arithmetic R173 to R177): the arithmetic over unbounded integers for every width, then what the
eight instructions answer when the operand is declared. -/

namespace Sys2Proof.Machine

/-! ### Halves of a product -/

/-- The high half of a product is not zero exactly when the product does not fit the low half (R173). -/
theorem hiByte_ofNat_ne_zero {p : Nat} (hp : p < 2 ^ 16) : hiByte (BitVec.ofNat 16 p) ≠ 0 ↔ 2 ^ 8 ≤ p := by
  rw [hiByte, ne_eq, BitVec.toNat_eq, BitVec.extractLsb'_toNat, BitVec.toNat_ofNat, Nat.mod_eq_of_lt hp,
    Nat.shiftRight_eq_div_pow, BitVec.ofNat_eq_ofNat, BitVec.toNat_zero]
  omega

theorem ofNat_high_ne_zero {n p : Nat} (hp : p < 2 ^ n * 2 ^ n) : BitVec.ofNat n (p / 2 ^ n) ≠ 0 ↔ 2 ^ n ≤ p := by
  rw [ne_eq, BitVec.toNat_eq, BitVec.toNat_ofNat, Nat.mod_eq_of_lt (Nat.div_lt_of_lt_mul hp),
    BitVec.ofNat_eq_ofNat, BitVec.toNat_zero, Nat.div_eq_zero_iff]
  simp

/-- The two words of a product put together again (R173). -/
theorem toNat_high_low {n p : Nat} (hp : p < 2 ^ n * 2 ^ n) :
    2 ^ n * (BitVec.ofNat n (p / 2 ^ n)).toNat + (BitVec.ofNat n p).toNat = p := by
  rw [BitVec.toNat_ofNat, BitVec.toNat_ofNat, Nat.mod_eq_of_lt (Nat.div_lt_of_lt_mul hp), Nat.div_add_mod]

theorem toNat_mul_toNat_lt {n : Nat} (a b : BitVec n) : a.toNat * b.toNat < 2 ^ n * 2 ^ n :=
  Nat.mul_lt_mul'' a.isLt b.isLt

/-- A signed product fits the double width (R174). -/
theorem toInt_ofInt_mul {n : Nat} (hn : 0 < n) (a b : BitVec n) :
    (BitVec.ofInt (2 * n) (a.toInt * b.toInt)).toInt = a.toInt * b.toInt := by
  have hlow : -2 ^ (n * 2 - 2) ≤ a.toInt * b.toInt := BitVec.le_toInt_mul_toInt
  have hhigh : a.toInt * b.toInt ≤ 2 ^ (n * 2 - 2) := BitVec.toInt_mul_toInt_le
  have hpow : (2 : Int) ^ (2 * n - 1) = 2 * 2 ^ (n * 2 - 2) := by
    rw [← pow_succ', show 2 * n - 1 = n * 2 - 2 + 1 by omega]
  have hpos : (0 : Int) < 2 ^ (n * 2 - 2) := by positivity
  exact BitVec.toInt_ofInt_eq_self (by omega) (by omega) (by omega)

/-! ### Quotients -/

/-- A divisor that is not 0 and a quotient that fits: quotient and remainder have the operand width (R175). -/
theorem divideUnsigned_fits {w n : Nat} {b : BitVec w} (hb : b.toNat ≠ 0) (hq : n / b.toNat < 2 ^ w) :
    ∃ q r : BitVec w, divideUnsigned w n b.toNat = some (q.toNat, r.toNat) ∧ n = q.toNat * b.toNat + r.toNat ∧
      r.toNat < b.toNat := by
  have hr : n % b.toNat < b.toNat := Nat.mod_lt _ (Nat.pos_of_ne_zero hb)
  refine ⟨BitVec.ofNatLT _ hq, BitVec.ofNatLT _ (hr.trans b.isLt), ?_, (Nat.div_add_mod' ..).symm, hr⟩
  rw [divideUnsigned, if_neg hb, if_neg (Nat.not_le.2 hq)]
  rfl

theorem divideUnsigned_none {w n d : Nat} (h : d = 0 ∨ 2 ^ w ≤ n / d) : divideUnsigned w n d = none := by
  rw [divideUnsigned, ite_eq_left_iff]
  exact fun hd => if_pos (h.resolve_left hd)

/-- The remainder of a truncated division has the dividend's sign, or is 0 (R176). -/
theorem mul_tmod_nonneg (n d : Int) : 0 ≤ n * n.tmod d := by
  obtain hn | hn := Int.le_total 0 n
  · exact Int.mul_nonneg hn (Int.tmod_nonneg d hn)
  · have hneg := Int.mul_nonneg (Int.neg_nonneg_of_nonpos hn) (Int.tmod_nonneg d (Int.neg_nonneg_of_nonpos hn))
    rwa [Int.neg_tmod, Int.neg_mul_neg] at hneg

/-- A divisor that is not 0 and a truncated quotient in the signed range: quotient and remainder have the operand width (R176). -/
theorem divideSigned_fits {w : Nat} (hw : 0 < w) {n : Int} {b : BitVec w} (hb : b.toInt ≠ 0)
    (hlow : -2 ^ (w - 1) ≤ n.tdiv b.toInt) (hhigh : n.tdiv b.toInt < 2 ^ (w - 1)) :
    ∃ q r : BitVec w, divideSigned w n b.toInt = some (q.toInt, r.toInt) ∧ n = q.toInt * b.toInt + r.toInt ∧
      r.toInt.natAbs < b.toInt.natAbs ∧ 0 ≤ n * r.toInt := by
  have hr : (n.tmod b.toInt).natAbs < b.toInt.natAbs := by
    rw [Int.natAbs_tmod]
    exact Nat.mod_lt _ (Int.natAbs_pos.2 hb)
  have hq' : (BitVec.ofInt w (n.tdiv b.toInt)).toInt = n.tdiv b.toInt := BitVec.toInt_ofInt_eq_self hw hlow hhigh
  have hr' : (BitVec.ofInt w (n.tmod b.toInt)).toInt = n.tmod b.toInt := by
    have hbLow := b.le_toInt
    have hbHigh := b.toInt_lt
    exact BitVec.toInt_ofInt_eq_self hw (by omega) (by omega)
  refine ⟨BitVec.ofInt w (n.tdiv b.toInt), BitVec.ofInt w (n.tmod b.toInt), ?_⟩
  rw [hq', hr']
  refine ⟨?_, (Int.tdiv_mul_add_tmod ..).symm, hr, mul_tmod_nonneg ..⟩
  rw [divideSigned, if_neg hb, if_neg (by omega), Int.tmod_def, Int.mul_comm]

theorem divideSigned_none {w : Nat} {n d : Int} (h : d = 0 ∨ n.tdiv d < -2 ^ (w - 1) ∨ 2 ^ (w - 1) ≤ n.tdiv d) :
    divideSigned w n d = none := by
  rw [divideSigned, ite_eq_left_iff]
  exact fun hd => if_pos (h.resolve_left hd)

/-! ### MUL and IMUL -/

variable {s : State}

theorem exec_mulRm8 {m : Rm8} (h : s.hasRm8 m) {p : Nat} (hp : (s.reg8 .al).toNat * (s.rm8 m).toNat = p) :
    exec (.mulRm8 m) s = .next ((s.setReg16 .ax (BitVec.ofNat 16 p)).setWide (decide (2 ^ 8 ≤ p))) := by
  change execMulRm8 m s = _
  rw [execMulRm8, readRm8_ok h, ← hp]
  rfl

theorem exec_mulRm16 {m : Rm16} (h : s.hasRm16 m) {p : Nat} (hp : s.regs.ax.toNat * (s.rm16 m).toNat = p) :
    exec (.mulRm16 m) s = .next (((s.setReg16 .ax (BitVec.ofNat 16 p)).setReg16 .dx (BitVec.ofNat 16 (p / 2 ^ 16))).setWide
      (decide (2 ^ 16 ≤ p))) := by
  change execMulRm16 m s = _
  rw [execMulRm16, readRm16_ok h, ← hp]
  rfl

/-- Settles O15: a product of two operands fits the double width, so its halves determine it. -/
theorem mulProducts : Obligations.MulProducts := by
  intro s
  refine ⟨fun m h => ?byte, fun m h => ?word⟩
  case byte =>
    have hlt := toNat_mul_toNat_lt (s.reg8 .al) (s.rm8 m)
    refine ⟨BitVec.ofNat 16 _, ?_, Nat.mod_eq_of_lt hlt⟩
    simp only [hiByte_ofNat_ne_zero hlt]
    exact exec_mulRm8 h rfl
  case word =>
    have hlt := toNat_mul_toNat_lt s.regs.ax (s.rm16 m)
    refine ⟨BitVec.ofNat 16 (_ / 2 ^ 16), BitVec.ofNat 16 _, ?_, toNat_high_low hlt⟩
    simp only [ofNat_high_ne_zero hlt]
    exact exec_mulRm16 h rfl

theorem exec_imulRm8 {m : Rm8} (h : s.hasRm8 m) {p : Int} (hp : (s.reg8 .al).toInt * (s.rm8 m).toInt = p) :
    exec (.imulRm8 m) s =
      .next ((s.setReg16 .ax (BitVec.ofInt 16 p)).setWide (!(decide (-2 ^ 7 ≤ p) && decide (p < 2 ^ 7)))) := by
  change execImulRm8 m s = _
  rw [execImulRm8, readRm8_ok h, ← hp]
  rfl

theorem exec_imulRm16 {m : Rm16} (h : s.hasRm16 m) {p : Int} (hp : s.regs.ax.toInt * (s.rm16 m).toInt = p) :
    exec (.imulRm16 m) s = .next (((s.setReg16 .ax ((BitVec.ofInt 32 p).extractLsb' 0 16)).setReg16 .dx
      ((BitVec.ofInt 32 p).extractLsb' 16 16)).setWide (!(decide (-2 ^ 15 ≤ p) && decide (p < 2 ^ 15)))) := by
  change execImulRm16 m s = _
  rw [execImulRm16, readRm16_ok h, ← hp]
  rfl

/-- OF and CF of IMUL say that the product is outside the range of the operand width (R174). -/
theorem wide_iff {p low high : Int} : (!(decide (low ≤ p) && decide (p < high))) = true ↔ ¬(low ≤ p ∧ p ≤ high - 1) := by
  rw [Bool.not_eq_true', Bool.and_eq_false_iff, decide_eq_false_iff_not, decide_eq_false_iff_not, ← not_and_or,
    Int.le_sub_one_iff]

/-- Settles O16: a signed product of two operands fits the double width, so its halves determine it. -/
theorem imulProducts : Obligations.ImulProducts := by
  intro s
  refine ⟨fun m h => ?byte, fun m h => ?word⟩
  case byte =>
    have hw := toInt_ofInt_mul (by decide) (s.reg8 .al) (s.rm8 m)
    refine ⟨_, _, exec_imulRm8 h rfl, hw, ?_⟩
    rw [hw]
    exact wide_iff
  case word =>
    obtain ⟨p, hp⟩ : ∃ p, s.regs.ax.toInt * (s.rm16 m).toInt = p := ⟨_, rfl⟩
    have hw : (BitVec.ofInt 32 p).toInt = p := hp ▸ toInt_ofInt_mul (by decide) s.regs.ax (s.rm16 m)
    have hjoin := BitVec.extractLsb'_append_extractLsb' (w := 16) (len := 16) (x := BitVec.ofInt 32 p)
    refine ⟨(BitVec.ofInt 32 p).extractLsb' 16 16, (BitVec.ofInt 32 p).extractLsb' 0 16, _, exec_imulRm16 h hp, ?_⟩
    rw [hjoin, hw, hp]
    exact ⟨rfl, wide_iff⟩

/-! ### DIV and IDIV -/

/-- DIV and IDIV after the operand was read: the divide error, or a quotient and a remainder put in their registers. -/
def State.divided {w : Nat} (s : State) (put : BitVec w → BitVec w → State) :
    Option (BitVec w × BitVec w) → Host.Outcome State Fault Refusal
  | none => finish s.divideError
  | some (q, r) => .next (put q r)

theorem divided_some {w : Nat} (put : BitVec w → BitVec w → State) (q r : BitVec w) :
    s.divided put (some (q, r)) = .next (put q r) := rfl

/-- The divide error enters vector 0 with the address of the instruction's first byte saved (R177, R323). -/
theorem divided_none {w : Nat} (he : s.canEnter 0) (put : BitVec w → BitVec w → State) :
    s.divided put none = .next (s.entered 0 s.segs.cs s.instrStart) :=
  finish_eq_next.2 (interrupt_ok he)

/-- A quotient and a remainder as unsigned numbers of the operand width (R175). -/
def unsignedPair (w : Nat) (x : Option (Nat × Nat)) : Option (BitVec w × BitVec w) :=
  x.map (Prod.map (BitVec.ofNat w) (BitVec.ofNat w))

/-- A quotient and a remainder as signed numbers of the operand width (R176). -/
def signedPair (w : Nat) (x : Option (Int × Int)) : Option (BitVec w × BitVec w) :=
  x.map (Prod.map (BitVec.ofInt w) (BitVec.ofInt w))

theorem unsignedPair_toNat {w : Nat} (q r : BitVec w) : unsignedPair w (some (q.toNat, r.toNat)) = some (q, r) := by
  simp [unsignedPair]

theorem signedPair_toInt {w : Nat} (q r : BitVec w) : signedPair w (some (q.toInt, r.toInt)) = some (q, r) := by
  simp [signedPair]

theorem exec_divRm8 {m : Rm8} (h : s.hasRm8 m) :
    exec (.divRm8 m) s = s.divided (fun q r => s.setReg16 .ax (r ++ q))
      (unsignedPair 8 (divideUnsigned 8 s.regs.ax.toNat (s.rm8 m).toNat)) := by
  change execDivRm8 m s = _
  rw [execDivRm8, readRm8_ok h, ok_bind]
  cases divideUnsigned 8 s.regs.ax.toNat (s.rm8 m).toNat <;> rfl

theorem exec_divRm16 {m : Rm16} (h : s.hasRm16 m) :
    exec (.divRm16 m) s = s.divided (fun q r => (s.setReg16 .ax q).setReg16 .dx r)
      (unsignedPair 16 (divideUnsigned 16 (s.regs.dx ++ s.regs.ax).toNat (s.rm16 m).toNat)) := by
  change execDivRm16 m s = _
  rw [execDivRm16, readRm16_ok h, ok_bind]
  cases divideUnsigned 16 (s.regs.dx ++ s.regs.ax).toNat (s.rm16 m).toNat <;> rfl

theorem exec_idivRm8 {m : Rm8} (h : s.hasRm8 m) :
    exec (.idivRm8 m) s = s.divided (fun q r => s.setReg16 .ax (r ++ q))
      (signedPair 8 (divideSigned 8 s.regs.ax.toInt (s.rm8 m).toInt)) := by
  change execIdivRm8 m s = _
  rw [execIdivRm8, readRm8_ok h, ok_bind]
  cases divideSigned 8 s.regs.ax.toInt (s.rm8 m).toInt <;> rfl

theorem exec_idivRm16 {m : Rm16} (h : s.hasRm16 m) :
    exec (.idivRm16 m) s = s.divided (fun q r => (s.setReg16 .ax q).setReg16 .dx r)
      (signedPair 16 (divideSigned 16 (s.regs.dx ++ s.regs.ax).toInt (s.rm16 m).toInt)) := by
  change execIdivRm16 m s = _
  rw [execIdivRm16, readRm16_ok h, ok_bind]
  cases divideSigned 16 (s.regs.dx ++ s.regs.ax).toInt (s.rm16 m).toInt <;> rfl

/-- Unsigned division with quotients up to `high`: the quotient and the remainder, or the divide error (R175, R177). -/
theorem divided_divideUnsigned {w high : Nat} (hw : 2 ^ w = high + 1) (n : Nat) (b : BitVec w)
    (put : BitVec w → BitVec w → State) :
    (b.toNat ≠ 0 ∧ n / b.toNat ≤ high → ∃ q r : BitVec w,
      s.divided put (unsignedPair w (divideUnsigned w n b.toNat)) = .next (put q r) ∧
      n = q.toNat * b.toNat + r.toNat ∧ r.toNat < b.toNat) ∧
    (b.toNat = 0 ∨ high < n / b.toNat → s.canEnter 0 →
      s.divided put (unsignedPair w (divideUnsigned w n b.toNat)) = .next (s.entered 0 s.segs.cs s.instrStart)) := by
  refine ⟨fun ⟨hb, hq⟩ => ?_, fun hbad he => ?_⟩
  · obtain ⟨q, r, hqr, hn, hr⟩ := divideUnsigned_fits (n := n) hb (by omega)
    exact ⟨q, r, by rw [hqr, unsignedPair_toNat, divided_some], hn, hr⟩
  · rw [divideUnsigned_none (by omega)]
    exact divided_none he put

/-- Signed division with quotients from `low` up to `high`: the quotient and the remainder, or the divide error (R176, R177). -/
theorem divided_divideSigned {w : Nat} {low high : Int} (hw : 0 < w) (hlow : -2 ^ (w - 1) = low)
    (hhigh : 2 ^ (w - 1) = high + 1) (n : Int) (b : BitVec w) (put : BitVec w → BitVec w → State) :
    (b.toInt ≠ 0 ∧ low ≤ n.tdiv b.toInt ∧ n.tdiv b.toInt ≤ high → ∃ q r : BitVec w,
      s.divided put (signedPair w (divideSigned w n b.toInt)) = .next (put q r) ∧
      n = q.toInt * b.toInt + r.toInt ∧ r.toInt.natAbs < b.toInt.natAbs ∧ 0 ≤ n * r.toInt) ∧
    (b.toInt = 0 ∨ n.tdiv b.toInt < low ∨ high < n.tdiv b.toInt → s.canEnter 0 →
      s.divided put (signedPair w (divideSigned w n b.toInt)) = .next (s.entered 0 s.segs.cs s.instrStart)) := by
  refine ⟨fun ⟨hb, hq1, hq2⟩ => ?_, fun hbad he => ?_⟩
  · obtain ⟨q, r, hqr, hn, hr, hsign⟩ := divideSigned_fits (n := n) hw hb (by omega) (by omega)
    exact ⟨q, r, by rw [hqr, signedPair_toInt, divided_some], hn, hr, hsign⟩
  · rw [divideSigned_none (by omega)]
    exact divided_none he put

/-- DX:AX as an unsigned number (R175). -/
theorem toNat_append_words (hi lo : Word) : (hi ++ lo).toNat = 2 ^ 16 * hi.toNat + lo.toNat := by
  rw [BitVec.toNat_append, ← Nat.shiftLeft_add_eq_or_of_lt lo.isLt, Nat.shiftLeft_eq, Nat.mul_comm]

/-- Settles O17, from unsigned division of AX by a byte and of DX:AX by a word. -/
theorem divQuotients : Obligations.DivQuotients := by
  intro s
  refine ⟨fun m n d h hn hd => ?byte, fun m n d h hn hd => ?word⟩
  case byte =>
    subst hn hd
    rw [exec_divRm8 h]
    exact divided_divideUnsigned rfl _ _ _
  case word =>
    rw [← toNat_append_words] at hn
    subst hn hd
    rw [exec_divRm16 h]
    exact divided_divideUnsigned rfl _ _ _

/-- Settles O18, from signed division of AX by a byte and of DX:AX by a word. -/
theorem idivQuotients : Obligations.IdivQuotients := by
  intro s
  refine ⟨fun m n d h hn hd => ?byte, fun m n d h hn hd => ?word⟩
  case byte =>
    subst hn hd
    rw [exec_idivRm8 h]
    exact divided_divideSigned (by decide) rfl rfl _ _ _
  case word =>
    subst hn hd
    rw [exec_idivRm16 h]
    exact divided_divideSigned (by decide) rfl rfl _ _ _

end Sys2Proof.Machine
end

section
/-! SUPPORT. AND, OR, XOR and TEST (42_logic_bcd R191 to R195): the first three are kinds of the two-operand pattern, TEST is
the AND of that pattern with its result dropped. -/

namespace Sys2Proof.Machine

variable {s : State}

/-- TEST on bytes: the flags of the AND, no operand written (R195). -/
theorem testRm8_next {d : Rm8} (h : s.hasRm8 d) (b : Byte) : ∃ af n, cmpRm8 andOp d b s =
    .next { s with flags := bitwiseFlags s.flags (s.rm8 d &&& b) af, draws := n } := by
  obtain ⟨af, n, hop⟩ := AluKind.op_eq (by decide) .and s (s.rm8 d) b
  exact ⟨af, n, (cmpRm8_next h).trans (congrArg (Host.Outcome.next ∘ Prod.snd) hop)⟩

/-- TEST on words: the flags of the AND, no operand written (R195). -/
theorem testRm16_next {d : Rm16} (h : s.hasRm16 d) (w : Word) : ∃ af n, cmpRm16 andOp d w s =
    .next { s with flags := bitwiseFlags s.flags (s.rm16 d &&& w) af, draws := n } := by
  obtain ⟨af, n, hop⟩ := AluKind.op_eq (by decide) .and s (s.rm16 d) w
  exact ⟨af, n, (cmpRm16_next h).trans (congrArg (Host.Outcome.next ∘ Prod.snd) hop)⟩

/-- Settles O13, from the forms of every kind; TEST of the accumulator is TEST of a register operand. -/
theorem logicalForms : Obligations.LogicalForms := by
  refine ⟨AluKind.forms .and, AluKind.forms .or, AluKind.forms .xor, fun s => ⟨?byte, ?word, ?al, ?ax⟩⟩
  case byte =>
    rintro a b d r h rfl
    exact ⟨fun hb => hb ▸ testRm8_next h _, testRm8_next h b⟩
  case word =>
    rintro a b d r h rfl
    exact ⟨fun hb => hb ▸ testRm16_next h _, testRm16_next h b⟩
  case al => exact testRm8_next (d := .reg .al) trivial
  case ax => exact testRm16_next (d := .reg .ax) trivial

end Sys2Proof.Machine
end

section
/-! SUPPORT. The adjust instructions (42_logic_bcd R196 to R203): what each leaves, with AX and AL as numbers. -/

namespace Sys2Proof.Machine

variable {s : State}

/-! ### AX by its halves, as numbers -/

theorem wordOf_eq_ofNat (lo hi : Byte) : wordOf lo hi = BitVec.ofNat 16 (hi.toNat * 256 + lo.toNat) := by
  refine BitVec.eq_of_toNat_eq ?_
  rw [wordOf, BitVec.toNat_append, ← Nat.shiftLeft_add_eq_or_of_lt lo.isLt, Nat.shiftLeft_eq, BitVec.toNat_ofNat]
  omega

/-- Clearing the high digit of a byte leaves its low digit (R198, R199). -/
theorem toNat_and_lowDigit (b : Byte) : (b &&& 0x0F).toNat = b.toNat % 16 := by
  rw [BitVec.toNat_and]
  exact Nat.and_two_pow_sub_one_eq_mod b.toNat 4

/-! ### AAA, AAS, AAM, AAD -/

/-- AX of AAA and AAS: what is added to AL counts modulo 16, since only the low digit stays (R198, R199). -/
theorem asciiAdjust_ax (adj : Bool) (al ah six one : Byte) :
    wordOf ((if adj then al + six else al) &&& 0x0F) (if adj then ah + one else ah) =
      if adj then BitVec.ofNat 16 ((ah.toNat + one.toNat) % 256 * 256 + (al.toNat + six.toNat % 16) % 16)
      else BitVec.ofNat 16 (ah.toNat * 256 + al.toNat % 16) := by
  rw [wordOf_eq_ofNat, toNat_and_lowDigit]
  cases adj with
  | false => rfl
  | true =>
    have hlow : (al + six).toNat % 16 = (al.toNat + six.toNat % 16) % 16 := by
      rw [BitVec.toNat_add]
      omega
    simp only [if_true, hlow]
    rw [BitVec.toNat_add]

/-- What AAA and AAS leave, from the AX they compute: AF and CF say whether they adjusted, the other four are free (R198, R199). -/
theorem asciiAdjust_eq {adj : Bool} {six one : Byte} {ax : Word} (hadj : adj = s.lowAdjust)
    (hax : ax = wordOf ((if adj then s.reg8 .al + six else s.reg8 .al) &&& 0x0F)
      (if adj then s.reg8 .ah + one else s.reg8 .ah)) :
    ∃ o f z p n, asciiAdjust s six one = { s with
      regs := { s.regs with ax := ax }
      flags := { s.flags with AF := adj, CF := adj, OF := o, SF := f, ZF := z, PF := p }, draws := n } := by
  subst hax hadj
  exact ⟨_, _, _, _, _, rfl⟩

/-- AAM and AAD after AX is written: SF, ZF, PF by AL, the other three free (R200, R201, D13). -/
theorem setBcdFlags_eq (ax : Word) (al : Byte) : ∃ o af c n, (s.setReg16 .ax ax).setBcdFlags al = { s with
    regs := { s.regs with ax := ax }
    flags := { resultFlags s.flags al with OF := o, AF := af, CF := c }, draws := n } := by
  rw [← setSZP_eq (by decide)]
  exact ⟨_, _, _, _, rfl⟩

/-- AAM: the quotient and the remainder of AL by 10 (R200). -/
theorem exec_aam {al : Nat} (hal : al = (s.reg8 .al).toNat) :
    exec .aam s = .next ((s.setReg16 .ax (BitVec.ofNat 16 (al / 10 * 256 + al % 10))).setBcdFlags
      (BitVec.ofNat 8 (al % 10))) := by
  have hlt := (s.reg8 .al).isLt
  rw [← hal] at hlt
  have hax : wordOf (BitVec.ofNat 8 (al % 10)) (BitVec.ofNat 8 (al / 10)) = BitVec.ofNat 16 (al / 10 * 256 + al % 10) := by
    rw [wordOf_eq_ofNat, BitVec.toNat_ofNat, BitVec.toNat_ofNat, Nat.mod_eq_of_lt (by omega), Nat.mod_eq_of_lt (by omega)]
  rw [← hax, hal]
  rfl

/-- AAD: all eight bits of AL and AH take part (R201, D13). -/
theorem exec_aad {n : Nat} (hn : n = ((s.reg8 .al).toNat + (s.reg8 .ah).toNat * 10) % 256) :
    exec .aad s = .next ((s.setReg16 .ax (BitVec.ofNat 16 n)).setBcdFlags (BitVec.ofNat 8 n)) := by
  have hax : wordOf (BitVec.ofNat 8 n) 0 = BitVec.ofNat 16 n := by
    rw [wordOf_eq_ofNat, BitVec.toNat_ofNat, Nat.mod_eq_of_lt (by omega)]
    exact congrArg (BitVec.ofNat 16) (Nat.zero_add n)
  have hal : BitVec.ofNat 8 n = BitVec.ofNat 8 ((s.reg8 .al).toNat + (s.reg8 .ah).toNat * 10) := by
    refine BitVec.eq_of_toNat_eq ?_
    rw [BitVec.toNat_ofNat, BitVec.toNat_ofNat, hn, Nat.mod_mod]
  rw [← hax, hal]
  rfl

/-! ### DAA and DAS -/

/-- The two steps, from what the second step looks at and from the byte they leave (R202, R203). -/
theorem decimalAdjust_eq {low high : Byte → Byte} {carry lo hi : Bool} {r : Byte} (hlo : lo = s.lowAdjust)
    (hhi : hi = (s.flags.CF || (lo && carry) || decide (9 < (if lo then low (s.reg8 .al) else s.reg8 .al).toNat / 16)))
    (hr : r = if hi then high (if lo then low (s.reg8 .al) else s.reg8 .al)
      else if lo then low (s.reg8 .al) else s.reg8 .al) :
    ∃ o n, decimalAdjust s low high carry = ({ s with
      flags := { resultFlags s.flags r with AF := lo, CF := hi, OF := o }, draws := n }).setReg8 .al r := by
  rw [← setSZP_eq (by decide)]
  subst hr hhi hlo
  exact ⟨_, _, rfl⟩

/-- The second step of DAA: a carry out of the first one, or a high digit above 9 after it, says that AL exceeded 99h (R202). -/
theorem daa_highAdjust {lo : Bool} (al : Byte) (h : lo = false → al.toNat % 16 ≤ 9) :
    (lo && decide (0xFF < al.toNat + 6) || decide (9 < (if lo then al + 6 else al).toNat / 16)) =
      decide (0x99 < al.toNat) := by
  cases lo with
  | false =>
    have hlow := h rfl
    simp only [Bool.false_and, Bool.false_or, Bool.false_eq_true, if_false, decide_eq_decide]
    omega
  | true =>
    simp only [Bool.true_and, if_true, ← Bool.decide_or, decide_eq_decide, BitVec.toNat_add, BitVec.ofNat_eq_ofNat,
      BitVec.toNat_ofNat]
    omega

/-- The second step of DAS: the first one borrowed, or its result is at least A0h (R203). -/
theorem das_highAdjust (lo : Bool) (al : Byte) :
    (lo && decide (al.toNat < 6) || decide (9 < (if lo then al - 6 else al).toNat / 16)) =
      (lo && decide (al.toNat < 6) || decide (0xA0 + (if lo then 6 else 0) ≤ al.toNat)) := by
  cases lo with
  | false =>
    simp only [Bool.false_and, Bool.false_or, Bool.false_eq_true, if_false, decide_eq_decide]
    omega
  | true =>
    simp only [Bool.true_and, if_true, ← Bool.decide_or, decide_eq_decide, BitVec.toNat_sub, BitVec.ofNat_eq_ofNat,
      BitVec.toNat_ofNat]
    omega

/-- AL of DAA (R202). -/
theorem daa_al (lo hi : Bool) (al : Byte) :
    BitVec.ofNat 8 (al.toNat + (if lo then 6 else 0) + (if hi then 0x60 else 0)) =
      if hi then (if lo then al + 6 else al) + 0x60 else if lo then al + 6 else al := by
  cases lo <;> cases hi <;> simp [BitVec.ofNat_add]

/-- AL of DAS (R203). -/
theorem das_al (lo hi : Bool) (al : Byte) :
    BitVec.ofInt 8 ((al.toNat : Int) - (if lo then 6 else 0) - (if hi then 0x60 else 0)) =
      if hi then (if lo then al - 6 else al) - 0x60 else if lo then al - 6 else al := by
  cases lo <;> cases hi <;> simp [ofInt_sub]

/-- DAA, with the condition of its second step read off AL as it was (R202). -/
theorem exec_daa {lo hi : Bool} {r : Byte} (hlo : lo = s.lowAdjust)
    (hhi : hi = (s.flags.CF || decide (0x99 < (s.reg8 .al).toNat)))
    (hr : r = BitVec.ofNat 8 ((s.reg8 .al).toNat + (if lo then 6 else 0) + (if hi then 0x60 else 0))) :
    ∃ o n, exec .daa s = .next (({ s with
      flags := { resultFlags s.flags r with AF := lo, CF := hi, OF := o }, draws := n }).setReg8 .al r) := by
  have hlow : lo = false → (s.reg8 .al).toNat % 16 ≤ 9 := fun h => by
    rw [h, eq_comm, State.lowAdjust, Bool.or_eq_false_iff, decide_eq_false_iff_not] at hlo
    exact Nat.le_of_not_lt hlo.2
  rw [← daa_highAdjust _ hlow, ← Bool.or_assoc] at hhi
  obtain ⟨o, n, h⟩ := decimalAdjust_eq (low := (· + 6)) (high := (· + 0x60)) hlo hhi (hr.trans (daa_al lo hi _))
  exact ⟨o, n, congrArg Host.Outcome.next h⟩

/-- DAS, with the condition of its second step read off AL as it was (R203). -/
theorem exec_das {lo hi : Bool} {r : Byte} (hlo : lo = s.lowAdjust)
    (hhi : hi = (s.flags.CF || (lo && decide ((s.reg8 .al).toNat < 6)) ||
      decide (0xA0 + (if lo then 6 else 0) ≤ (s.reg8 .al).toNat)))
    (hr : r = BitVec.ofInt 8 ((s.reg8 .al).toNat - (if lo then 6 else 0) - (if hi then 0x60 else 0))) :
    ∃ o n, exec .das s = .next (({ s with
      flags := { resultFlags s.flags r with AF := lo, CF := hi, OF := o }, draws := n }).setReg8 .al r) := by
  rw [Bool.or_assoc, ← das_highAdjust, ← Bool.or_assoc] at hhi
  obtain ⟨o, n, h⟩ := decimalAdjust_eq (low := (· - 6)) (high := (· - 0x60)) hlo hhi (hr.trans (das_al lo hi _))
  exact ⟨o, n, congrArg Host.Outcome.next h⟩

end Sys2Proof.Machine

namespace Sys2Proof

open Machine (asciiAdjust_eq asciiAdjust_ax exec_aam exec_aad setBcdFlags_eq exec_daa exec_das)

/-- Settles O21: AAA and AAS are one adjustment by 6 and 1 or by -6 and -1; AAM and AAD write AX and then the flags of AL. -/
theorem asciiAdjust : Obligations.AsciiAdjust := by
  rintro s al ah rfl rfl
  refine ⟨fun adj hadj => ⟨?aaa, ?aas⟩, ?aam, ?aad⟩
  case aaa =>
    obtain ⟨o, f, z, p, n, h⟩ := asciiAdjust_eq hadj (asciiAdjust_ax adj _ _ 6 1).symm
    exact ⟨o, f, z, p, n, congrArg Host.Outcome.next h⟩
  case aas =>
    obtain ⟨o, f, z, p, n, h⟩ := asciiAdjust_eq hadj (asciiAdjust_ax adj _ _ (-6) (-1)).symm
    exact ⟨o, f, z, p, n, congrArg Host.Outcome.next h⟩
  case aam =>
    rw [exec_aam rfl]
    obtain ⟨o, af, c, n, h⟩ := setBcdFlags_eq (s := s) _ _
    exact ⟨o, af, c, n, congrArg Host.Outcome.next h⟩
  case aad =>
    rw [exec_aad rfl]
    obtain ⟨o, af, c, n, h⟩ := setBcdFlags_eq (s := s) _ _
    exact ⟨o, af, c, n, congrArg Host.Outcome.next h⟩

/-- Settles O22, from DAA and DAS each. -/
theorem decimalAdjust : Obligations.DecimalAdjust := by
  rintro s al lo rfl hlo
  exact ⟨fun hi hhi r hr => exec_daa hlo hhi hr, fun hi hhi r hr => exec_das hlo hhi hr⟩

end Sys2Proof
end

section
/-! SUPPORT. Packed BCD arithmetic (42_logic_bcd R196): what DAA and DAS make of the sum or the difference of two packed BCD
bytes. -/

namespace Sys2Proof.Machine

variable {s : State} {x y c : Nat}

/-! ### The binary instruction before the adjustment -/

theorem State.reg8_setReg8_same (s : State) (r : Reg8) (v : Byte) : (s.setReg8 r v).reg8 r = v := by
  rw [State.reg8_setReg8, if_pos rfl]

/-- AL and the flags after an operation on AL that writes its result. -/
theorem AluKind.exec_alImm8_al (k : AluKind) (hk : k.writes = true) (b : Byte) : ∃ af t, exec (k.alImm8 b) s = .next t ∧
    t.reg8 .al = k.result s.flags (s.reg8 .al) b ∧ t.flags = k.flags s.flags (s.reg8 .al) b af := by
  obtain ⟨af, n, h⟩ := k.runRm8_next (s := s) (d := .reg .al) trivial b
  rw [after8, if_pos hk] at h
  exact ⟨af, _, (k.exec_alImm8 b).trans h, State.reg8_setReg8_same _ _ _, rfl⟩

/-- ADD AL and ADC AL are one sum with the carry that goes in (R161, R162). -/
theorem exec_sumAl {i : Instr} {b : Byte} (hi : i = .addAlImm8 b ∧ c = 0 ∨ i = .adcAlImm8 b ∧ c = s.flags.CF.toNat) :
    c ≤ 1 ∧ ∃ t, exec i s = .next t ∧ t.reg8 .al = sumOf (s.reg8 .al) b c ∧
      t.flags = sumFlags s.flags (s.reg8 .al) b c := by
  obtain ⟨rfl, rfl⟩ | ⟨rfl, rfl⟩ := hi
  · obtain ⟨_, t, h⟩ := AluKind.exec_alImm8_al .add rfl b
    exact ⟨Nat.zero_le 1, t, h⟩
  · obtain ⟨_, t, h⟩ := AluKind.exec_alImm8_al .adc rfl b
    exact ⟨Bool.toNat_le _, t, h⟩

/-- SUB AL and SBB AL are one difference with the borrow that goes in (R163, R164). -/
theorem exec_differenceAl {i : Instr} {b : Byte}
    (hi : i = .subAlImm8 b ∧ c = 0 ∨ i = .sbbAlImm8 b ∧ c = s.flags.CF.toNat) :
    c ≤ 1 ∧ ∃ t, exec i s = .next t ∧ t.reg8 .al = differenceOf (s.reg8 .al) b c ∧
      t.flags = differenceFlags s.flags (s.reg8 .al) b c := by
  obtain ⟨rfl, rfl⟩ | ⟨rfl, rfl⟩ := hi
  · obtain ⟨_, t, h⟩ := AluKind.exec_alImm8_al .sub rfl b
    exact ⟨Nat.zero_le 1, t, h⟩
  · obtain ⟨_, t, h⟩ := AluKind.exec_alImm8_al .sbb rfl b
    exact ⟨Bool.toNat_le _, t, h⟩

/-! ### The adjustment after it -/

/-- AL and CF after DAA, from AL and the flags that the binary instruction left (R202). -/
theorem exec_daa_al {v r : Byte} {f : Flags} {lo hi : Bool} (hal : s.reg8 .al = v) (hf : s.flags = f)
    (hlo : lo = (f.AF || decide (9 < v.toNat % 16)))
    (hhi : hi = (f.CF || decide (0x99 < v.toNat)))
    (hr : r = BitVec.ofNat 8 (v.toNat + (if lo then 6 else 0) + (if hi then 0x60 else 0))) :
    ∃ u, exec .daa s = .next u ∧ u.reg8 .al = r ∧ u.flags.CF = hi := by
  subst hal hf
  obtain ⟨o, n, h⟩ := exec_daa hlo hhi hr
  exact ⟨_, h, State.reg8_setReg8_same _ _ _, rfl⟩

/-- AL and CF after DAS, from AL and the flags that the binary instruction left (R203). -/
theorem exec_das_al {v r : Byte} {f : Flags} {lo hi : Bool} (hal : s.reg8 .al = v) (hf : s.flags = f)
    (hlo : lo = (f.AF || decide (9 < v.toNat % 16)))
    (hhi : hi = (f.CF || (lo && decide (v.toNat < 6)) || decide (0xA0 + (if lo then 6 else 0) ≤ v.toNat)))
    (hr : r = BitVec.ofInt 8 (v.toNat - (if lo then 6 else 0) - (if hi then 0x60 else 0))) :
    ∃ u, exec .das s = .next u ∧ u.reg8 .al = r ∧ u.flags.CF = hi := by
  subst hal hf
  obtain ⟨o, n, h⟩ := exec_das hlo hhi hr
  exact ⟨_, h, State.reg8_setReg8_same _ _ _, rfl⟩

/-! ### Sums and differences of two-digit numbers -/

theorem toNat_bcd (hx : x < 100) : (bcd x).toNat = 16 * (x / 10) + x % 10 := by
  rw [bcd, BitVec.toNat_ofNat]
  omega

theorem toNat_sumOf_bcd (hx : x < 100) (hy : y < 100) :
    (sumOf (bcd x) (bcd y) c).toNat = (16 * (x / 10 + y / 10) + (x % 10 + y % 10 + c)) % 256 := by
  rw [sumOf, BitVec.toNat_ofNat, toNat_bcd hx, toNat_bcd hy]
  omega

/-- After a sum the low digit asks for 6 exactly when the digits carry: past 15 AF says so, below it the digit itself (R196). -/
theorem lowAdjust_sumOf_bcd (f : Flags) (hx : x < 100) (hy : y < 100) (hc : c ≤ 1) :
    ((sumFlags f (bcd x) (bcd y) c).AF || decide (9 < (sumOf (bcd x) (bcd y) c).toNat % 16)) =
      decide (10 ≤ x % 10 + y % 10 + c) := by
  rw [sumFlags, toNat_sumOf_bcd hx hy, toNat_bcd hx, toNat_bcd hy, ← Bool.decide_or, decide_eq_decide]
  omega

/-- After a sum AL asks for 60h exactly when the number is 100 or more: past 255 CF says so (R196). -/
theorem highAdjust_sumOf_bcd (f : Flags) (hx : x < 100) (hy : y < 100) (hc : c ≤ 1) :
    ((sumFlags f (bcd x) (bcd y) c).CF || decide (0x99 < (sumOf (bcd x) (bcd y) c).toNat)) = decide (100 ≤ x + y + c) := by
  rw [sumFlags, toNat_sumOf_bcd hx hy, toNat_bcd hx, toNat_bcd hy, ← Bool.decide_or, decide_eq_decide]
  by_cases hcarry : 256 ≤ 16 * (x / 10 + y / 10) + (x % 10 + y % 10 + c)
  · omega
  · rw [Nat.mod_eq_of_lt (Nat.lt_of_not_le hcarry)]
    omega

/-- The two corrections make of the sum the packed BCD of the number's last two digits (R196). -/
theorem bcd_sum (hx : x < 100) (hy : y < 100) (hc : c ≤ 1) :
    bcd ((x + y + c) % 100) = BitVec.ofNat 8 ((sumOf (bcd x) (bcd y) c).toNat +
      (if decide (10 ≤ x % 10 + y % 10 + c) then 6 else 0) + (if decide (100 ≤ x + y + c) then 0x60 else 0)) := by
  refine BitVec.eq_of_toNat_eq ?_
  rw [toNat_bcd (Nat.mod_lt _ (by decide)), BitVec.toNat_ofNat, toNat_sumOf_bcd hx hy]
  simp only [decide_eq_true_eq]
  split <;> split <;> omega

theorem toNat_differenceOf_bcd (hx : x < 100) (hy : y < 100) (hc : c ≤ 1) :
    (differenceOf (bcd x) (bcd y) c).toNat =
      16 * (x / 10) + x % 10 + (if x < y + c then 256 else 0) - (16 * (y / 10) + y % 10) - c := by
  rw [differenceOf, BitVec.toNat_ofInt, toNat_bcd hx, toNat_bcd hy]
  split <;> omega

/-- After a difference the low digit asks for 6 exactly when the digits borrow (R196). -/
theorem lowAdjust_differenceOf_bcd (f : Flags) (hx : x < 100) (hy : y < 100) (hc : c ≤ 1) :
    ((differenceFlags f (bcd x) (bcd y) c).AF || decide (9 < (differenceOf (bcd x) (bcd y) c).toNat % 16)) =
      decide (x % 10 < y % 10 + c) := by
  rw [differenceFlags, toNat_differenceOf_bcd hx hy hc, toNat_bcd hx, toNat_bcd hy, ← Bool.decide_or, decide_eq_decide]
  split <;> omega

/-- After a difference AL asks for 60h exactly when the numbers borrow, as CF says (R196). -/
theorem highAdjust_differenceOf_bcd (f : Flags) (hx : x < 100) (hy : y < 100) (hc : c ≤ 1) :
    ((differenceFlags f (bcd x) (bcd y) c).CF ||
        (decide (x % 10 < y % 10 + c) && decide ((differenceOf (bcd x) (bcd y) c).toNat < 6)) ||
        decide (0xA0 + (if decide (x % 10 < y % 10 + c) then 6 else 0) ≤ (differenceOf (bcd x) (bcd y) c).toNat)) =
      decide (x < y + c) := by
  rw [differenceFlags, toNat_differenceOf_bcd hx hy hc, toNat_bcd hx, toNat_bcd hy]
  simp only [decide_eq_true_eq, ← Bool.decide_or, ← Bool.decide_and, decide_eq_decide]
  split <;> split <;> omega

/-- The two corrections make of the difference the packed BCD of the number modulo 100 (R196). -/
theorem bcd_difference (hx : x < 100) (hy : y < 100) (hc : c ≤ 1) :
    bcd ((x + 100 - y - c) % 100) = BitVec.ofInt 8 ((differenceOf (bcd x) (bcd y) c).toNat -
      (if decide (x % 10 < y % 10 + c) then 6 else 0) - (if decide (x < y + c) then 0x60 else 0)) := by
  refine BitVec.eq_of_toNat_eq ?_
  rw [toNat_bcd (Nat.mod_lt _ (by decide)), BitVec.toNat_ofInt, toNat_differenceOf_bcd hx hy hc]
  simp only [decide_eq_true_eq]
  split <;> split <;> omega

/-- Settles O23: the binary result, and then the two corrections, whose conditions are the decimal carries or borrows. -/
theorem bcdArithmetic : Obligations.BcdArithmetic := by
  intro s x y hx hy hal
  refine ⟨fun i c hi => ?sum, fun i c hi => ?difference⟩
  case sum =>
    obtain ⟨hc, t, hsum, ht, hflags⟩ := exec_sumAl hi
    rw [hal] at ht hflags
    obtain ⟨u, hdaa, hu, hcf⟩ := exec_daa_al ht hflags
      (lowAdjust_sumOf_bcd s.flags hx hy hc).symm (highAdjust_sumOf_bcd s.flags hx hy hc).symm (bcd_sum hx hy hc)
    exact ⟨t, u, hsum, hdaa, hu, hcf⟩
  case difference =>
    obtain ⟨hc, t, hdifference, ht, hflags⟩ := exec_differenceAl hi
    rw [hal] at ht hflags
    obtain ⟨u, hdas, hu, hcf⟩ := exec_das_al ht hflags
      (lowAdjust_differenceOf_bcd s.flags hx hy hc).symm (highAdjust_differenceOf_bcd s.flags hx hy hc).symm
      (bcd_difference hx hy hc)
    exact ⟨t, u, hdifference, hdas, hu, hcf⟩

end Sys2Proof.Machine
end

section
/-! SUPPORT. Shifts and rotates (43_shifts R210 to R220): one repetition of a one-bit step takes the closed forms
for a count to those for the next count, so the machine's repetitions are the closed forms of `ShiftKind`, for every
width above 1. -/

namespace Sys2Proof.Machine

/-! ### Turning bits around a ring -/

theorem getLsbD_rotateRight_eq_mod {w r i : Nat} (x : BitVec w) (hi : i < w) :
    (x.rotateRight r).getLsbD i = x.getLsbD ((r + i) % w) := by
  have hr : r % w < w := Nat.mod_lt r (Nat.zero_lt_of_lt hi)
  rw [BitVec.getLsbD_rotateRight, ← Nat.mod_add_mod r w i, decide_eq_true hi, Bool.true_and]
  by_cases hlow : i < w - r % w
  · rw [decide_eq_true hlow, cond_true, Nat.mod_eq_of_lt (show r % w + i < w by omega)]
  · rw [decide_eq_false hlow, cond_false, Nat.mod_eq_sub_mod (show w ≤ r % w + i by omega),
      Nat.mod_eq_of_lt (show r % w + i - w < w by omega)]
    congr 1
    omega

theorem rotateRight_succ {w : Nat} (x : BitVec w) (c : Nat) : x.rotateRight (c + 1) = (x.rotateRight c).rotateRight 1 := by
  refine BitVec.eq_of_getLsbD_eq fun i hi => ?_
  rw [getLsbD_rotateRight_eq_mod _ hi, getLsbD_rotateRight_eq_mod _ hi,
    getLsbD_rotateRight_eq_mod _ (Nat.mod_lt _ (Nat.zero_lt_of_lt hi)), Nat.add_mod_mod, Nat.add_assoc]

theorem rotateLeft_succ {w : Nat} (x : BitVec w) (c : Nat) : x.rotateLeft (c + 1) = (x.rotateLeft c).rotateLeft 1 := by
  refine BitVec.eq_of_getMsbD_eq fun i hi => ?_
  simp only [BitVec.getMsbD_rotateLeft, hi, Nat.mod_lt _ (Nat.zero_lt_of_lt hi), decide_true, Bool.true_and,
    Nat.add_mod_mod, Nat.add_assoc]

theorem rotateLeft_zero {w : Nat} (x : BitVec w) : x.rotateLeft 0 = x := by
  refine BitVec.eq_of_getMsbD_eq fun i hi => ?_
  rw [BitVec.getMsbD_rotateLeft, decide_eq_true hi, Bool.true_and, Nat.zero_add, Nat.mod_eq_of_lt hi]

theorem rotateRight_zero {w : Nat} (x : BitVec w) : x.rotateRight 0 = x := by
  refine BitVec.eq_of_getLsbD_eq fun i hi => ?_
  rw [getLsbD_rotateRight_eq_mod x hi, Nat.zero_add, Nat.mod_eq_of_lt hi]

theorem getLsbD_rotateLeft_one {w i : Nat} (hw : 1 < w) (x : BitVec w) (hi : i < w) :
    (x.rotateLeft 1).getLsbD i = if i = 0 then x.msb else x.getLsbD (i - 1) := by
  rw [BitVec.getLsbD_rotateLeft, Nat.mod_eq_of_lt hw, BitVec.msb_eq_getLsbD_last]
  by_cases h0 : i = 0
  · simp [h0]
  · simp [h0, hi]

theorem getLsbD_rotateRight_one {w i : Nat} (x : BitVec w) (hi : i < w) :
    (x.rotateRight 1).getLsbD i = if i = w - 1 then x.getLsbD 0 else x.getLsbD (i + 1) := by
  rw [getLsbD_rotateRight_eq_mod x hi, Nat.add_comm]
  by_cases htop : i = w - 1
  · rw [if_pos htop, htop, Nat.sub_add_cancel (Nat.zero_lt_of_lt hi), Nat.mod_self]
  · rw [if_neg htop, Nat.mod_eq_of_lt (by omega)]

/-! ### The one-bit steps -/

variable {n : Nat}

theorem getLsbD_ofNat_toNat (hn : 0 < n) (b : Bool) (i : Nat) :
    (BitVec.ofNat n b.toNat).getLsbD i = (decide (i = 0) && b) := by
  cases b with
  | false => simp
  | true => simp [BitVec.getLsbD_one, hn]

/-- A left shift by one that puts `b` into bit 0 (R211, R213). -/
theorem getLsbD_shiftLeft_or {i : Nat} (x : BitVec n) (b : Bool) (hi : i < n) :
    (x <<< 1 ||| BitVec.ofNat n b.toNat).getLsbD i = if i = 0 then b else x.getLsbD (i - 1) := by
  rw [BitVec.getLsbD_or, BitVec.getLsbD_shiftLeft, getLsbD_ofNat_toNat (Nat.zero_lt_of_lt hi), decide_eq_true hi]
  by_cases h0 : i = 0
  · simp [h0]
  · simp [h0]

/-- A right shift by one that puts `b` into the top bit (R212, R214). -/
theorem getLsbD_shiftRight_or {i : Nat} (x : BitVec n) (b : Bool) (hi : i < n) :
    (x >>> 1 ||| BitVec.ofNat n b.toNat <<< (n - 1)).getLsbD i = if i = n - 1 then b else x.getLsbD (i + 1) := by
  rw [BitVec.getLsbD_or, BitVec.getLsbD_ushiftRight, BitVec.getLsbD_shiftLeft, getLsbD_ofNat_toNat (Nat.zero_lt_of_lt hi),
    decide_eq_true hi, Nat.add_comm]
  by_cases htop : i = n - 1
  · rw [htop, BitVec.getLsbD_of_ge x _ (by omega)]
    simp
  · have hbelow : i < n - 1 := by omega
    simp [htop, hbelow]

theorem rolStep_eq (hn : 1 < n) (p : BitVec n × Bool) :
    rolStep p = (p.1.rotateLeft 1, (p.1.rotateLeft 1).getLsbD 0) := by
  refine Prod.ext (BitVec.eq_of_getLsbD_eq fun i hi => ?_) ?_
  · rw [rolStep, getLsbD_shiftLeft_or _ _ hi, getLsbD_rotateLeft_one hn _ hi]
  · rw [rolStep, getLsbD_rotateLeft_one hn _ (by omega), if_pos rfl]

theorem rorStep_eq (hn : 1 < n) (p : BitVec n × Bool) : rorStep p = (p.1.rotateRight 1, (p.1.rotateRight 1).msb) := by
  refine Prod.ext (BitVec.eq_of_getLsbD_eq fun i hi => ?_) ?_
  · rw [rorStep, getLsbD_shiftRight_or _ _ hi, getLsbD_rotateRight_one _ hi]
  · rw [rorStep, BitVec.msb_eq_getLsbD_last, getLsbD_rotateRight_one _ (by omega), if_pos rfl]

theorem getLsbD_truncate_of_lt {m i : Nat} (x : BitVec m) (hi : i < n) : (x.truncate n).getLsbD i = x.getLsbD i := by
  rw [BitVec.truncate_eq_setWidth, BitVec.getLsbD_setWidth, decide_eq_true hi, Bool.true_and]

/-- RCL turns the ring of N+1 bits in which CF lies above the top bit (R213). -/
theorem rclStep_eq (hn : 1 < n) (ring : BitVec (n + 1)) :
    rclStep (ring.truncate n, ring.msb) = ((ring.rotateLeft 1).truncate n, (ring.rotateLeft 1).msb) := by
  have hring : 1 < n + 1 := Nat.lt_succ_of_lt hn
  refine Prod.ext (BitVec.eq_of_getLsbD_eq fun i hi => ?_) ?_
  · rw [rclStep, getLsbD_shiftLeft_or _ _ hi, getLsbD_truncate_of_lt _ (by omega), getLsbD_truncate_of_lt _ hi,
      getLsbD_rotateLeft_one hring _ (by omega)]
  · change (ring.truncate n).msb = (ring.rotateLeft 1).msb
    rw [BitVec.msb_eq_getLsbD_last, BitVec.msb_eq_getLsbD_last, getLsbD_truncate_of_lt _ (by omega),
      getLsbD_rotateLeft_one hring _ (by omega), if_neg (by omega), Nat.add_sub_cancel]

/-- RCR turns the same ring the other way (R214). -/
theorem rcrStep_eq (hn : 1 < n) (ring : BitVec (n + 1)) :
    rcrStep (ring.truncate n, ring.msb) = ((ring.rotateRight 1).truncate n, (ring.rotateRight 1).msb) := by
  refine Prod.ext (BitVec.eq_of_getLsbD_eq fun i hi => ?_) ?_
  · rw [rcrStep, getLsbD_shiftRight_or _ _ hi, getLsbD_truncate_of_lt _ hi, getLsbD_rotateRight_one _ (by omega),
      if_neg (by omega : i ≠ n + 1 - 1)]
    by_cases htop : i = n - 1
    · rw [if_pos htop, htop, Nat.sub_add_cancel (by omega)]
      exact BitVec.msb_eq_getLsbD_last ring
    · rw [if_neg htop, getLsbD_truncate_of_lt _ (by omega)]
  · change (ring.truncate n).getLsbD 0 = (ring.rotateRight 1).msb
    rw [BitVec.msb_eq_getLsbD_last, getLsbD_truncate_of_lt _ (by omega), getLsbD_rotateRight_one _ (by omega),
      if_pos rfl]

/-- SAR keeps the top bit: a signed shift (R217). -/
theorem sarStep_eq (hn : 1 < n) (p : BitVec n × Bool) : sarStep p = (p.1.sshiftRight 1, p.1.getLsbD 0) := by
  refine Prod.ext (BitVec.eq_of_getLsbD_eq fun i hi => ?_) rfl
  rw [sarStep, BitVec.getLsbD_or, BitVec.getLsbD_and, BitVec.getLsbD_ushiftRight, BitVec.getLsbD_shiftLeft,
    BitVec.getLsbD_ofNat, BitVec.getLsbD_sshiftRight, Nat.add_comm]
  by_cases htop : i = n - 1
  · rw [htop, BitVec.getLsbD_of_ge p.1 _ (by omega), BitVec.msb_eq_getLsbD_last]
    simp [show 0 < n by omega, show ¬n ≤ n - 1 by omega, show ¬n - 1 + 1 < n by omega]
  · simp [hi, show i < n - 1 by omega, show i + 1 < n by omega]

/-! ### The closed forms -/

/-- The machine's one-bit step of each. -/
def ShiftKind.step : ShiftKind → BitVec n × Bool → BitVec n × Bool
  | .rol => rolStep
  | .ror => rorStep
  | .rcl => rclStep
  | .rcr => rcrStep
  | .sal => salStep
  | .shr => shrStep
  | .sar => sarStep

/-- CF takes part in the step: the rotates through CF (R213, R214). -/
def ShiftKind.readsCarry : ShiftKind → Bool
  | .rcl | .rcr => true
  | .rol | .ror | .sal | .shr | .sar => false

theorem ShiftKind.result_sal (x : BitVec n) (cf : Bool) (c : Nat) : ShiftKind.sal.result x cf c = x <<< c := by
  refine BitVec.eq_of_toNat_eq ?_
  rw [result, BitVec.toNat_ofNat, BitVec.toNat_shiftLeft, Nat.shiftLeft_eq]

theorem ShiftKind.result_shr (x : BitVec n) (cf : Bool) (c : Nat) : ShiftKind.shr.result x cf c = x >>> c := by
  rw [result, ← Nat.shiftRight_eq_div_pow, ← BitVec.toNat_ushiftRight, BitVec.ofNat_toNat, BitVec.setWidth_eq]

theorem ShiftKind.result_sar (x : BitVec n) (cf : Bool) (c : Nat) : ShiftKind.sar.result x cf c = x.sshiftRight c := by
  rw [result, BitVec.sshiftRight, Int.shiftRight_eq_div_pow, Nat.cast_pow, Nat.cast_ofNat]

theorem ShiftKind.carry_sal_succ (x : BitVec n) (cf : Bool) (c : Nat) :
    ShiftKind.sal.carry x cf (c + 1) = (x <<< c).msb := by
  rw [carry, BitVec.msb_shiftLeft, BitVec.getMsbD_eq_getLsbD, Nat.sub_sub, Nat.add_comm 1]
  rfl

theorem ShiftKind.carry_shr_succ (x : BitVec n) (cf : Bool) (c : Nat) :
    ShiftKind.shr.carry x cf (c + 1) = (x >>> c).getLsbD 0 := by
  rw [carry, BitVec.getLsbD_ushiftRight, Nat.add_sub_cancel, Nat.add_zero c]
  by_cases hc : c < n
  · rw [decide_eq_true (show c + 1 ≤ n from hc), Bool.true_and]
  · rw [BitVec.getLsbD_of_ge x c (Nat.le_of_not_lt hc), Bool.and_false]

theorem ShiftKind.carry_sar_succ (hn : 0 < n) (x : BitVec n) (cf : Bool) (c : Nat) :
    ShiftKind.sar.carry x cf (c + 1) = (x.sshiftRight c).getLsbD 0 := by
  rw [carry, BitVec.getLsbD_sshiftRight, decide_eq_false (Nat.not_le.2 hn), Bool.not_false, Bool.true_and]
  rfl

/-- A count of 0 leaves the operand (R218). -/
theorem ShiftKind.result_zero (k : ShiftKind) (x : BitVec n) (cf : Bool) : k.result x cf 0 = x := by
  cases k with
  | rol => exact rotateLeft_zero x
  | ror => exact rotateRight_zero x
  | rcl => rw [result, rotateLeft_zero, BitVec.truncate_eq_setWidth, BitVec.setWidth_cons]
  | rcr => rw [result, rotateRight_zero, BitVec.truncate_eq_setWidth, BitVec.setWidth_cons]
  | sal => rw [result_sal, BitVec.shiftLeft_zero]
  | shr => rw [result_shr, BitVec.ushiftRight_zero]
  | sar => rw [result_sar, BitVec.sshiftRight_zero]

/-- Before the first repetition the ring holds CF as it was (R213, R214). -/
theorem ShiftKind.carry_zero {k : ShiftKind} (hk : k.readsCarry = true) (x : BitVec n) (cf : Bool) :
    k.carry x cf 0 = cf := by
  cases k with
  | rcl => rw [carry, rotateLeft_zero, BitVec.msb_cons]
  | rcr => rw [carry, rotateRight_zero, BitVec.msb_cons]
  | rol | ror | sal | shr | sar => cases hk

/-- One repetition adds 1 to the count of the closed forms; only the rotates through CF look at the CF that comes in. -/
theorem ShiftKind.step_result (hn : 1 < n) (k : ShiftKind) (x : BitVec n) (cf : Bool) {b : Bool} {c : Nat}
    (hb : k.readsCarry = true → b = k.carry x cf c) :
    k.step (k.result x cf c, b) = (k.result x cf (c + 1), k.carry x cf (c + 1)) := by
  cases k with
  | rol => simp only [step, rolStep_eq hn, carry, result, rotateLeft_succ x c]
  | ror => simp only [step, rorStep_eq hn, carry, result, rotateRight_succ x c]
  | rcl => simp only [hb rfl, step, carry, result, rclStep_eq hn, rotateLeft_succ _ c]
  | rcr => simp only [hb rfl, step, carry, result, rcrStep_eq hn, rotateRight_succ _ c]
  | sal => rw [step, salStep, carry_sal_succ, result_sal, result_sal, BitVec.shiftLeft_add]
  | shr => rw [step, shrStep, carry_shr_succ, result_shr, result_shr, BitVec.shiftRight_add]
  | sar => rw [step, sarStep_eq hn, carry_sar_succ (by omega), result_sar, result_sar, BitVec.sshiftRight_add]

theorem shiftBy_eq_iterate (step : BitVec n × Bool → BitVec n × Bool) (c : Nat) (p : BitVec n × Bool) :
    shiftBy step c p = step^[c] p := by
  induction c generalizing p with
  | zero => rfl
  | succ c ih => exact ih (step p)

/-- The repetitions of the one-bit step are the closed forms, for every count of at least 1 (R218, R219). -/
theorem ShiftKind.shiftBy_step (hn : 1 < n) (k : ShiftKind) (x : BitVec n) (cf : Bool) (c : Nat) :
    shiftBy k.step (c + 1) (x, cf) = (k.result x cf (c + 1), k.carry x cf (c + 1)) := by
  rw [shiftBy_eq_iterate]
  induction c with
  | zero =>
    have h := k.step_result hn x cf (b := cf) fun hk => (carry_zero hk x cf).symm
    rwa [result_zero] at h
  | succ c ih => rw [Function.iterate_succ_apply', ih, k.step_result hn x cf fun _ => rfl]

/-! ### The operations -/

/-- The machine's operation of the one-bit form. -/
def ShiftKind.opOne : ShiftKind → Una n
  | .rol => rolOne
  | .ror => rorOne
  | .rcl => rclOne
  | .rcr => rcrOne
  | .sal => salOne
  | .shr => shrOne
  | .sar => sarOne

/-- The machine's operation of the CL form. -/
def ShiftKind.opCl : ShiftKind → Una n
  | .rol => rolCl
  | .ror => rorCl
  | .rcl => rclCl
  | .rcr => rcrCl
  | .sal => salCl
  | .shr => shrCl
  | .sar => sarCl

/-- The one-bit forms (R211 to R217, R220). -/
theorem ShiftKind.opOne_eq (hn : 1 < n) (k : ShiftKind) (s : State) (x : BitVec n) :
    ∃ af m, k.opOne s x = (k.result x s.flags.CF 1,
      { s with flags := k.flags s.flags x 1 (k.overflow x s.flags.CF) af, draws := m }) := by
  have hstep : k.step (x, s.flags.CF) = (k.result x s.flags.CF 1, k.carry x s.flags.CF 1) := k.shiftBy_step hn x _ 0
  cases k with
  | rol | rcl => exact ⟨false, s.draws, congrArg (fun r => s.shiftOne r (ofLeft r)) hstep⟩
  | ror | rcr => exact ⟨false, s.draws, congrArg (fun r => s.shiftOne r (ofRight r.1)) hstep⟩
  | shr => exact ⟨false, s.draws, congrArg (fun r => s.shiftOne r x.msb) hstep⟩
  | sar => exact ⟨false, s.draws, congrArg (fun r => s.shiftOne r false) hstep⟩
  | sal => exact ⟨s.freeFlag 0, s.draws + 1, by rw [opOne, salOne, ← step, hstep, setSZP_eq (by omega)]; rfl⟩

/-- The CL form with a count of 0: OF is drawn, nothing else changes (R219, D11). -/
theorem ShiftKind.opCl_zero (k : ShiftKind) {s : State} (hc : s.clCount = 0) (x : BitVec n) :
    ∃ o m, k.opCl s x = (x, { s with flags := { s.flags with OF := o }, draws := m }) := by
  have hnone : s.shiftMany (s.shiftCl k.step x) =
      (x, { s with flags := { s.flags with OF := s.freeFlag 0 }, draws := s.draws + 1 }) := by
    rw [State.shiftCl, hc]
    rfl
  refine ⟨_, _, Eq.trans ?_ hnone⟩
  cases k with
  | rol | ror | rcl | rcr | shr => rfl
  | sal | sar => exact if_pos hc

/-- The CL forms with a count of at least 1: OF is drawn, but for SAR, which clears it (R219, R220). -/
theorem ShiftKind.opCl_pos (hn : 1 < n) (k : ShiftKind) {s : State} {c : Nat} (hs : s.clCount = c) (hc : 1 ≤ c)
    (x : BitVec n) : ∃ o af m, (k = .sar → o = false) ∧
      k.opCl s x = (k.result x s.flags.CF c, { s with flags := k.flags s.flags x c o af, draws := m }) := by
  have hcl : s.shiftCl k.step x = (k.result x s.flags.CF c, k.carry x s.flags.CF c) := by
    obtain ⟨c, rfl⟩ := Nat.exists_eq_add_of_le' hc
    rw [State.shiftCl, hs, k.shiftBy_step hn]
  have hne : s.clCount ≠ 0 := by omega
  cases k with
  | rol | ror | rcl | rcr | shr => exact ⟨s.freeFlag 0, false, s.draws + 1, nofun, congrArg s.shiftMany hcl⟩
  | sar => exact ⟨false, false, s.draws, fun _ => rfl, (if_neg hne).trans (congrArg (s.shiftOne · false) hcl)⟩
  | sal =>
    exact ⟨s.freeFlag 0, s.freeFlag 1, s.draws + 2, nofun, by
      rw [opCl, salCl, if_neg hne, ← step, hcl, setSZP_eq (by omega)]; rfl⟩

/-! ### The instructions -/

variable {s : State}

/-- An instruction on a byte whose operation writes flags and draws some of them. -/
theorem unRm8_of_eq_drawn {f : Una 8} {d : Rm8} {v : Byte} {g : Flags} {m : Nat} (h : s.hasRm8 d)
    (hf : f s (s.rm8 d) = (v, { s with flags := g, draws := m })) :
    unRm8 f d s = .next (({ s with flags := g, draws := m } : State).putRm8 d v) := by
  rw [unRm8_next h (hf ▸ samePlaces_flags g m), hf]

/-- An instruction on a word whose operation writes flags and draws some of them. -/
theorem unRm16_of_eq_drawn {f : Una 16} {d : Rm16} {v : Word} {g : Flags} {m : Nat} (h : s.hasRm16 d)
    (hf : f s (s.rm16 d) = (v, { s with flags := g, draws := m })) :
    unRm16 f d s = .next (({ s with flags := g, draws := m } : State).putRm16 d v) := by
  rw [unRm16_next h (hf ▸ samePlaces_flags g m), hf]

theorem ShiftKind.exec_rm8One (k : ShiftKind) (d : Rm8) : exec (k.rm8One d) s = unRm8 k.opOne d s := by cases k <;> rfl

theorem ShiftKind.exec_rm16One (k : ShiftKind) (d : Rm16) : exec (k.rm16One d) s = unRm16 k.opOne d s := by cases k <;> rfl

theorem ShiftKind.exec_rm8Cl (k : ShiftKind) (d : Rm8) : exec (k.rm8Cl d) s = unRm8 k.opCl d s := by cases k <;> rfl

theorem ShiftKind.exec_rm16Cl (k : ShiftKind) (d : Rm16) : exec (k.rm16Cl d) s = unRm16 k.opCl d s := by cases k <;> rfl

/-- Settles O19, from the one-bit operation of each kind. -/
theorem shiftByOne : Obligations.ShiftByOne := by
  intro k s
  refine ⟨fun d h => ?byte, fun d h => ?word⟩
  case byte =>
    obtain ⟨af, m, hop⟩ := k.opOne_eq (by decide) s (s.rm8 d)
    exact ⟨af, m, (k.exec_rm8One d).trans (unRm8_of_eq_drawn h hop)⟩
  case word =>
    obtain ⟨af, m, hop⟩ := k.opOne_eq (by decide) s (s.rm16 d)
    exact ⟨af, m, (k.exec_rm16One d).trans (unRm16_of_eq_drawn h hop)⟩

/-- Settles O20, from the CL operation of each kind, without repetitions and with some. -/
theorem shiftByCl : Obligations.ShiftByCl := by
  intro k s c hcl
  refine ⟨fun d h => ⟨fun hc => ?byteZero, fun hc => ?byte⟩, fun d h => ⟨fun hc => ?wordZero, fun hc => ?word⟩⟩
  case byteZero =>
    obtain ⟨o, m, hop⟩ := k.opCl_zero (hcl.symm.trans hc) (s.rm8 d)
    exact ⟨o, m, (k.exec_rm8Cl d).trans (unRm8_of_eq_drawn h hop)⟩
  case byte =>
    obtain ⟨o, af, m, ho, hop⟩ := k.opCl_pos (by decide) hcl.symm hc (s.rm8 d)
    exact ⟨o, af, m, ho, (k.exec_rm8Cl d).trans (unRm8_of_eq_drawn h hop)⟩
  case wordZero =>
    obtain ⟨o, m, hop⟩ := k.opCl_zero (hcl.symm.trans hc) (s.rm16 d)
    exact ⟨o, m, (k.exec_rm16Cl d).trans (unRm16_of_eq_drawn h hop)⟩
  case word =>
    obtain ⟨o, af, m, ho, hop⟩ := k.opCl_pos (by decide) hcl.symm hc (s.rm16 d)
    exact ⟨o, af, m, ho, (k.exec_rm16Cl d).trans (unRm16_of_eq_drawn h hop)⟩

end Sys2Proof.Machine
end

section
/-! SUPPORT. What one string element does when its bytes are declared (44_string R231 to R238): the move of the indexes,
once, then each operation. -/

namespace Sys2Proof.Machine

variable {s : State}

/-! ### The indexes (R238) -/

/-- One element's step over the integers is the amount the machine adds to an index register. -/
theorem ofInt_step_eq_delta (s : State) (size : Nat) :
    BitVec.ofInt 16 ((if s.flags.DF then -(size : Int) else size) * (1 : Nat)) = s.delta (BitVec.ofNat 16 size) := by
  cases h : s.flags.DF <;> simp [State.delta, h, BitVec.ofInt_neg, BitVec.ofInt_natCast]

theorem advanced_eq_moveSi_moveDi {k : StrKind} (hsi : k.usesSi = true) (hdi : k.usesDi = true) (s : State)
    (size : Nat) : k.advanced s size 1 = (s.moveSi (BitVec.ofNat 16 size)).moveDi (BitVec.ofNat 16 size) := by
  simp only [StrKind.advanced, ofInt_step_eq_delta, hsi, hdi, if_true]
  rfl

theorem advanced_eq_moveSi {k : StrKind} (hsi : k.usesSi = true) (hdi : k.usesDi = false) (s : State) (size : Nat) :
    k.advanced s size 1 = s.moveSi (BitVec.ofNat 16 size) := by
  simp only [StrKind.advanced, ofInt_step_eq_delta, hsi, hdi, if_true, Bool.false_eq_true, if_false]
  rfl

theorem advanced_eq_moveDi {k : StrKind} (hsi : k.usesSi = false) (hdi : k.usesDi = true) (s : State) (size : Nat) :
    k.advanced s size 1 = s.moveDi (BitVec.ofNat 16 size) := by
  simp only [StrKind.advanced, ofInt_step_eq_delta, hsi, hdi, if_true, Bool.false_eq_true, if_false]
  rfl

/-- The flags of a comparison, over unbounded integers (R232, R233). -/
theorem setFlags_subFlags {n : Nat} (hn : 0 < n) (s : State) (a b : BitVec n) :
    s.setFlags (subFlags s.flags a b false).2 = { s with flags := differenceFlags s.flags a b 0 } := by
  rw [subFlags_eq hn]
  rfl

/-! ### The elements (R231 to R235) -/

theorem byteElement_ok (k : StrKind) (h : k.hasByte s) : k.byteElement s = .ok (k.advanced (k.byteEffect s) 1 1) := by
  obtain ⟨hsrc, hdst⟩ := h
  cases k with
  | movs =>
    rw [advanced_eq_moveSi_moveDi rfl rfl]
    simp only [StrKind.byteElement, movs8, memRead8_ok (hsrc rfl), memWrite8_ok (hdst rfl), ok_bind]
    rfl
  | cmps =>
    rw [advanced_eq_moveSi_moveDi rfl rfl]
    simp only [StrKind.byteElement, cmps8, memRead8_ok (hsrc rfl), memRead8_ok (hdst rfl), ok_bind,
      setFlags_subFlags (n := 8) (by decide)]
    rfl
  | scas =>
    rw [advanced_eq_moveDi rfl rfl]
    simp only [StrKind.byteElement, scas8, memRead8_ok (hdst rfl), ok_bind,
      setFlags_subFlags (n := 8) (by decide)]
    rfl
  | lods =>
    rw [advanced_eq_moveSi rfl rfl]
    simp only [StrKind.byteElement, lods8, memRead8_ok (hsrc rfl), ok_bind]
    rfl
  | stos =>
    rw [advanced_eq_moveDi rfl rfl]
    simp only [StrKind.byteElement, stos8, memWrite8_ok (hdst rfl), ok_bind]
    rfl

theorem wordElement_ok (k : StrKind) (h : k.hasWord s) : k.wordElement s = .ok (k.advanced (k.wordEffect s) 2 1) := by
  obtain ⟨hsrc, hdst⟩ := h
  cases k with
  | movs =>
    rw [advanced_eq_moveSi_moveDi rfl rfl]
    simp only [StrKind.wordElement, movs16, memRead16_ok (hsrc rfl), memWrite16_ok (hdst rfl), ok_bind]
    rfl
  | cmps =>
    rw [advanced_eq_moveSi_moveDi rfl rfl]
    simp only [StrKind.wordElement, cmps16, memRead16_ok (hsrc rfl), memRead16_ok (hdst rfl), ok_bind,
      setFlags_subFlags (n := 16) (by decide)]
    rfl
  | scas =>
    rw [advanced_eq_moveDi rfl rfl]
    simp only [StrKind.wordElement, scas16, memRead16_ok (hdst rfl), ok_bind,
      setFlags_subFlags (n := 16) (by decide)]
    rfl
  | lods =>
    rw [advanced_eq_moveSi rfl rfl]
    simp only [StrKind.wordElement, lods16, memRead16_ok (hsrc rfl), ok_bind]
    rfl
  | stos =>
    rw [advanced_eq_moveDi rfl rfl]
    simp only [StrKind.wordElement, stos16, memWrite16_ok (hdst rfl), ok_bind]
    rfl

/-- Settles O43: without a repeat prefix each form is one element, and an element whose bytes are declared runs. -/
theorem stringElements : Obligations.StringElements := fun k s hrep =>
  ⟨fun h => by rw [exec_byteForm k hrep, byteElement_ok k h, finish_ok],
    fun h => by rw [exec_wordForm k hrep, wordElement_ok k h, finish_ok]⟩

end Sys2Proof.Machine
end

section
/-! SUPPORT. What the control transfers do (45_control_transfer R242 to R279, R400 to R403): one rule per shape of meaning of
Machine/Control.lean, then what the flags of a comparison tell a conditional jump. -/

namespace Sys2Proof.Machine

variable {s : State}

/-! ### Targets (R245) -/

theorem target8_eq (s : State) (d : Byte) : s.target8 d = BitVec.ofInt 16 (s.ip.toNat + d.toInt) := by
  rw [BitVec.ofInt_add, BitVec.ofInt_natCast, BitVec.ofNat_toNat, BitVec.setWidth_eq]
  rfl

theorem target16_eq (s : State) (d : Word) : s.target16 d = BitVec.ofNat 16 (s.ip.toNat + d.toNat) := by
  rw [BitVec.ofNat_add, BitVec.ofNat_toNat, BitVec.ofNat_toNat, BitVec.setWidth_eq, BitVec.setWidth_eq]
  rfl

/-! ### Jumps (R246 to R250, R259 to R273) -/

/-- Settles O32: each form is a transfer to its target, the indirect ones after one read. -/
theorem jumpForms : Obligations.JumpForms := by
  intro s
  refine ⟨fun d => ?jmpRel8, fun d => ?jmpRel16, fun m h => ?jmpRm16, fun o g => rfl, fun m h => ?jmpM⟩
  case jmpRel8 => exact target8_eq s d ▸ rfl
  case jmpRel16 => exact target16_eq s d ▸ rfl
  case jmpRm16 => exact finish_map_of_ok (readRm16_ok h) _
  case jmpM => exact finish_map_of_ok (readFar_ok h) fun p => (s.transfer p.1).setSreg .cs p.2

/-- IP is the next offset already, so a jump that is not taken changes nothing (R259). -/
theorem jumpIf_eq (b : Bool) (d : Byte) (s : State) : jumpIf b d s =
    .next (if b then { s with ip := BitVec.ofInt 16 (s.ip.toNat + d.toInt), ahead := [] } else s) := by
  rw [← target8_eq]
  rfl

/-- Every conditional jump tests its condition of R101. -/
theorem exec_of_jumpCondition {i : Instr} {c : Prop} {d : Byte} (h : jumpCondition s.flags i = some (c, d)) :
    ∃ b : Bool, (b = true ↔ c) ∧ exec i s = jumpIf b d s := by
  cases i with
  | jo | jno | jb | jnb | je | jne | jbe | jnbe | js | jns | jp | jnp | jl | jnl | jle | jnle =>
    cases h
    refine ⟨_, ?_, rfl⟩
    simp
  | _ => cases h

/-- Settles O33: the tested bit is the condition. -/
theorem conditionalJumps : Obligations.ConditionalJumps := by
  intro s i c d h
  obtain ⟨b, hb, hexec⟩ := exec_of_jumpCondition h
  rw [hexec, jumpIf_eq]
  exact ⟨fun hc => by rw [if_pos (hb.2 hc)], fun hc => by rw [if_neg (mt hb.1 hc)]⟩

/-! ### Loops (R276 to R279) -/

/-- A loop is a conditional jump from the state in which CX is decremented (R277 to R279). -/
theorem loopIf_eq (b : Bool) (d : Byte) {c : Word} (hc : c = BitVec.ofInt 16 ((s.regs.cx.toNat : Int) - 1)) :
    loopIf b d s = jumpIf (c != 0 && b) d { s with regs := { s.regs with cx := c } } := by
  have hcx : c = s.regs.cx - 1 := by
    rw [hc, ofInt_sub, BitVec.ofInt_natCast, BitVec.ofNat_toNat, BitVec.setWidth_eq]
    rfl
  subst hcx
  rfl

/-- Settles O35: each form is one conditional jump, after CX is decremented but for JCXZ. -/
theorem loopForms : Obligations.LoopForms := by
  intro s d tgt c htgt hc
  subst htgt
  have hrun (b : Bool) := (loopIf_eq b d hc).trans (jumpIf_eq _ _ _)
  refine ⟨(jumpIf_eq (s.regs.cx == 0) d s).trans ?jcxz, fun t ht => ?_⟩
  case jcxz => simp only [beq_iff_eq]
  subst ht
  refine ⟨(hrun true).trans ?loop, (hrun s.flags.ZF).trans ?loope, (hrun (!s.flags.ZF)).trans ?loopne⟩ <;>
    simp only [bne_iff_ne, Bool.and_eq_true, Bool.and_true, Bool.not_eq_true']

/-! ### Words on the stack, one at a time (R62, R63) -/

theorem push16_of_canPush {n : Nat} (h : s.canPush (n + 1)) (v : Word) : s.push16 v = .ok (s.pushed [v]) :=
  push16_ok (h 0 n.succ_pos)

/-- A push takes the first of the words that can be pushed. -/
theorem canPush_pushed {n : Nat} (h : s.canPush (n + 1)) (v : Word) : (s.pushed [v]).canPush n := by
  intro k hk
  have hsp : (s.pushed [v]).regs.sp - 2 * BitVec.ofNat 16 (k + 1) = s.regs.sp - 2 * BitVec.ofNat 16 (k + 1 + 1) := by
    rw [pushed_sp, BitVec.ofNat_add (k + 1) 1]
    simp only [Regs.set, List.length_singleton]
    bv_omega
  rw [hasWord_congr (State.pushed_cfg _), State.pushed_segs, hsp]
  exact h (k + 1) (by omega)

theorem pop16_of_canPop_succ {n : Nat} (h : s.canPop (n + 1)) : s.pop16 = .ok (s.stackWord 0, s.popped 1) :=
  pop16_of_canPop fun k hk => h k (by omega)

theorem popped_sp_add (s : State) (m k : Nat) :
    (s.popped m).regs.sp + 2 * BitVec.ofNat 16 k = s.regs.sp + 2 * BitVec.ofNat 16 (m + k) := by
  rw [BitVec.ofNat_add, BitVec.mul_add, ← BitVec.add_assoc]
  rfl

theorem canPop_popped {n : Nat} (h : s.canPop (n + 1)) : (s.popped 1).canPop n := by
  intro k hk
  rw [popped_sp_add]
  exact h (1 + k) (by omega)

theorem stackWord_popped (s : State) (k : Nat) : (s.popped 1).stackWord k = s.stackWord (1 + k) := by
  rw [State.stackWord, popped_sp_add]
  rfl

/-! ### Calls (R251 to R254) -/

theorem callNear_next (h : s.canPush 1) (o : Word) : callNear o s = .next { s.pushed [s.ip] with ip := o, ahead := [] } := by
  rw [callNear, push16_of_canPush h]
  rfl

/-- The push of CS leaves the next offset, which is pushed after it (R253, R254). -/
theorem callFarTo_next (h : s.canPush 2) (g o : Word) : callFarTo g o s =
    .next { s.pushed [s.segs.cs, s.ip] with ip := o, segs := { s.segs with cs := g }, ahead := [] } := by
  have hip : (s.pushed [s.segs.cs]).push16 s.ip = .ok (s.pushed [s.segs.cs, s.ip]) :=
    push16_of_canPush (canPush_pushed h _) _
  have hsegs : (s.pushed [s.segs.cs, s.ip]).segs = s.segs := State.pushed_segs _
  rw [callFarTo, push16_of_canPush h, ok_bind, State.pushed_ip, hip, ok_bind, pure_res, finish_ok,
    State.setSreg, State.transfer_segs, hsegs]
  rfl

/-- Settles O36: an indirect target is read in the state before the pushes (R243). -/
theorem callForms : Obligations.CallForms := by
  refine fun s => ⟨fun h => ⟨fun d => ?callRel16, fun m hm => ?callRm16⟩,
    fun h => ⟨fun o g => callFarTo_next h g o, fun m hm => ?callM⟩⟩
  case callRel16 => exact target16_eq s d ▸ callNear_next h _
  case callRm16 =>
    change execCallRm16 m s = _
    rw [execCallRm16, readRm16_ok hm]
    exact callNear_next h _
  case callM =>
    change execCallM m s = _
    rw [execCallM, readFar_ok hm]
    exact callFarTo_next h _ _

/-! ### Returns (R255 to R258, R403) -/

theorem retNear_next (h : s.canPop 1) (w : Word) : retNear w s = .next { s with
    regs := { s.regs with sp := s.regs.sp + 2 + w }, ip := s.stackWord 0, ahead := [] } := by
  rw [retNear, pop16_of_canPop h]
  rfl

/-- The second pop reads the next word of the same stack, since a pop changes SP alone (R257, R258). -/
theorem retFar_next (h : s.canPop 2) (w : Word) : retFar w s = .next { s with
    regs := { s.regs with sp := s.regs.sp + 4 + w }, ip := s.stackWord 0
    segs := { s.segs with cs := s.stackWord 1 }, ahead := [] } := by
  have hsp : (s.popped 1).popped 1 = s.popped 2 :=
    congrArg (fun v => s.setReg16 .sp v) (popped_sp_add s 1 1)
  rw [retFar, pop16_of_canPop_succ h, ok_bind, pop16_of_canPop (canPop_popped h), ok_bind, stackWord_popped, hsp]
  rfl

/-- Settles O37: the plain forms release no byte. -/
theorem returnForms : Obligations.ReturnForms := by
  refine fun s => ⟨fun h => ⟨?retNear, retNear_next h⟩, fun h => ⟨?retFar, retFar_next h⟩⟩
  case retNear => exact (retNear_next h 0).trans (by rw [add_zero]; rfl)
  case retFar => exact (retFar_next h 0).trans (by rw [add_zero]; rfl)

/-- Settles O39: the flags are those of the third word, whose reserved bits R19 ignores. -/
theorem interruptReturn : Obligations.InterruptReturn := fun s h =>
  ⟨Flags.ofWord (s.stackWord 2), finish_eq_next.2 (interruptReturn_eq_ok.2 ⟨h, rfl⟩), Flags.toWord_ofWord _⟩

/-! ### Software interrupts (R400 to R402) -/

/-- Settles O38: each form makes the entry of R330, INTO when OF is set. -/
theorem softwareInterrupts : Obligations.SoftwareInterrupts := by
  refine fun s => ⟨fun n h => finish_eq_next.2 (interrupt_ok h), fun h => finish_eq_next.2 (interrupt_ok h), fun hOF h => ?set,
    fun hOF => ?clear⟩
  case set => exact (if_pos hOF).trans (finish_eq_next.2 (interrupt_ok h))
  case clear => exact if_neg (by simp [hOF])

/-! ### Comparisons (R165, R260 to R275) -/

/-- An integer less than 2P away from 0, taken into the signed range of 2P values: its sign and its being outside the range differ
exactly when it is negative. -/
theorem bmod_neg_iff_outside {P : Nat} {x : Int} (hlo : -(2 * P : Int) < x) (hhi : x < 2 * P) :
    ¬(x.bmod (2 * P) < 0 ↔ x < -P ∨ P ≤ x) ↔ x < 0 := by
  obtain hlow | hin | hhigh : x < -P ∨ (-P ≤ x ∧ x < P) ∨ P ≤ x := by omega
  · rw [← Int.add_bmod_right, Int.bmod_eq_of_le_mul_two (by omega) (by omega)]
    omega
  · rw [Int.bmod_eq_of_le_mul_two (by omega) (by omega)]
    omega
  · rw [← Int.sub_bmod_right, Int.bmod_eq_of_le_mul_two (by omega) (by omega)]
    omega

section Difference

variable {n : Nat} (f : Flags) (a b : BitVec n)

theorem differenceFlags_CF : (differenceFlags f a b 0).CF = true ↔ a.toNat < b.toNat := decide_eq_true_iff

theorem differenceOf_zero : differenceOf a b 0 = a - b := by
  simp [differenceOf, ofInt_sub]

theorem differenceFlags_ZF : (differenceFlags f a b 0).ZF = true ↔ a = b := by
  calc (differenceFlags f a b 0).ZF = true
      ↔ (differenceOf a b 0).toNat = 0 := decide_eq_true_iff
    _ ↔ a - b = 0 := by rw [differenceOf_zero, ← BitVec.toNat_inj]; rfl
    _ ↔ a = b := sub_eq_zero

/-- SF is the sign of the result (R24). -/
theorem differenceFlags_SF (hn : 0 < n) : (differenceFlags f a b 0).SF = decide ((a.toInt - b.toInt).bmod (2 ^ n) < 0) := by
  rw [← BitVec.toInt_sub, ← BitVec.msb_eq_toInt, ← differenceOf_zero, msb_eq_le _ hn]
  rfl

theorem differenceFlags_OF : (differenceFlags f a b 0).OF =
    decide (a.toInt - b.toInt < -(2 ^ (n - 1) : Nat) ∨ (2 ^ (n - 1) : Nat) ≤ a.toInt - b.toInt) := by
  simp [differenceFlags]

/-- SF and OF differ exactly when the difference over the integers is negative, since that difference wraps at most once. -/
theorem differenceFlags_SF_ne_OF (hn : 0 < n) :
    (differenceFlags f a b 0).SF ≠ (differenceFlags f a b 0).OF ↔ a.toInt < b.toInt := by
  have ha := a.le_toInt
  have ha' := a.toInt_lt
  have hb := b.le_toInt
  have hb' := b.toInt_lt
  have hP : (2 : Int) ^ (n - 1) = (2 ^ (n - 1) : Nat) := by simp
  rw [differenceFlags_SF f a b hn, differenceFlags_OF, pow_double hn, ne_eq, decide_eq_decide]
  exact (bmod_neg_iff_outside (by omega) (by omega)).trans sub_neg

/-- The five conditions that order two operands, on the flags that their comparison leaves (R262, R264, R266, R272, R274). -/
theorem jumpCondition_differenceFlags {g : Flags} (hg : g = differenceFlags f a b 0) (hn : 0 < n) (d : Byte) :
    (∀ c, jumpCondition g (.jb d) = some (c, d) → (c ↔ a.toNat < b.toNat)) ∧
    (∀ c, jumpCondition g (.jbe d) = some (c, d) → (c ↔ a.toNat ≤ b.toNat)) ∧
    (∀ c, jumpCondition g (.jl d) = some (c, d) → (c ↔ a.toInt < b.toInt)) ∧
    (∀ c, jumpCondition g (.jle d) = some (c, d) → (c ↔ a.toInt ≤ b.toInt)) ∧
    (∀ c, jumpCondition g (.je d) = some (c, d) → (c ↔ a = b)) := by
  subst hg
  have hb := differenceFlags_CF f a b
  have he := differenceFlags_ZF f a b
  have hl := differenceFlags_SF_ne_OF f a b hn
  refine ⟨?jb, ?jbe, ?jl, ?jle, ?je⟩ <;> rintro c ⟨rfl⟩
  case jb => exact hb
  case jbe => rw [hb, he, ← BitVec.toNat_inj, Nat.le_iff_lt_or_eq]
  case jl => exact hl
  case jle => rw [he, hl, ← BitVec.toInt_inj, Int.le_iff_lt_or_eq, or_comm]
  case je => exact he

end Difference

/-- Settles O34: both forms of CMP leave the flags of the difference (R165). -/
theorem compareThenJump : Obligations.CompareThenJump := by
  refine ⟨fun s w d => ?word, fun s b d => ?byte⟩
  case word =>
    obtain ⟨_, _, h⟩ := AluKind.runRm16_next .cmp (s := s) (d := .reg .ax) trivial w
    exact ⟨_, h, jumpCondition_differenceFlags s.flags s.regs.ax w rfl (by decide) d⟩
  case byte =>
    obtain ⟨_, _, h⟩ := AluKind.runRm8_next .cmp (s := s) (d := .reg .al) trivial b
    exact ⟨_, h, jumpCondition_differenceFlags s.flags (s.reg8 .al) b rfl (by decide) d⟩

end Sys2Proof.Machine
end

section
/-! SUPPORT. Processor control (46_processor_control R280 to R290): the instructions, then what a boundary examines and the
step of a processor that HLT has halted. -/

namespace Sys2Proof.Machine

variable {s u : State} {e : Inputs} {n : Byte}

/-! ### The instructions -/

/-- Settles O41: the meaning of each is a write of FLAGS in which one field is new. -/
theorem flagControl : Obligations.FlagControl := fun _ => ⟨rfl, rfl, rfl, rfl, rfl, rfl, rfl⟩

theorem execWait_of_ready (h : (s.inputs.headD Inputs.idle).ready = true) : execWait s = .next s := if_pos h

theorem execWait_of_not_ready (h : (s.inputs.headD Inputs.idle).ready = false) :
    execWait s = .next { s with ip := s.instrStart, pause := .waiting s.ip } := if_neg (by rw [h]; exact Bool.false_ne_true)

theorem step_of_waiting {next : Word} (hh : s.halted = false) (hp : s.pause = .waiting next) :
    step s = atBoundary true (exec .wait { s with ip := next, pause := .none }) := by
  simp [step, runStep, hh, hp]

/-- Settles O42: WAIT by its two cases, and the step that tests it again. -/
theorem nopHltWaitEsc : Obligations.NopHltWaitEsc := by
  refine ⟨fun s => ⟨?nop, ?hlt, execWait_of_ready, execWait_of_not_ready, fun op => ⟨fun r => ?register, fun m => ?memory⟩⟩,
    fun s next => step_of_waiting⟩
  case nop | hlt | register | memory => rfl

/-! ### The entry of a processor that does not pause (R330, R331) -/

theorem entered_pause (s : State) (n : Byte) (c o : Word) : (s.entered n c o).pause = s.pause := by
  simp only [State.entered, State.pushed_pause]

theorem entered_pfx (s : State) (n : Byte) (c o : Word) : (s.entered n c o).pfx = s.pfx := by
  simp only [State.entered, State.pushed_pfx]

theorem entered_flags (s : State) (n : Byte) (c o : Word) :
    (s.entered n c o).flags = { s.flags with IF := false, TF := false } := by
  simp only [State.entered]

theorem entered_halted (s : State) (n : Byte) (c o : Word) : (s.entered n c o).halted = false := by
  simp only [State.entered]

theorem resumeIp_of_pause_none (h : s.pause = .none) : s.resumeIp = s.ip := by
  simp only [State.resumeIp, h]

theorem set_pause_eq_self (h : s.pause = .none) : { s with pause := .none } = s := by
  rw [← h]

theorem enter_of_pause_none (hp : s.pause = .none) (hc : s.canEnter n) :
    s.enter n = .ok (s.entered n s.segs.cs s.ip) := by
  refine enter_eq_ok.2 ⟨hc, ?_⟩
  rw [resumeIp_of_pause_none hp]
  exact set_pause_eq_self ((entered_pause _ _ _ _).trans hp)

theorem enterNmi_of_pause_none (hp : s.pause = .none) (hc : s.canEnter 2) :
    s.enterNmi = .ok { s.entered 2 s.segs.cs s.ip with nmiBlocked := true } := by
  rw [State.enterNmi, enter_of_pause_none hp hc]
  rfl

/-! ### What a boundary examines (R340) -/

theorem examineNmi_of_taken (h : e.nmi = true ∧ s.nmiBlocked = false) : s.examineNmi e = s.enterNmi :=
  if_pos (by simpa using h)

theorem examineNmi_of_not_taken (h : ¬(e.nmi = true ∧ s.nmiBlocked = false)) : s.examineNmi e = .ok s :=
  if_neg (by simpa using h)

theorem examineInt_of_taken (h : e.intr = some n) (hif : s.flags.IF = true) :
    s.examineInt e = (s.emit (.intAck n)).enter n := by
  simp only [State.examineInt, h, hif, if_true]

theorem examineInt_of_not_taken (h : e.intr = none ∨ s.flags.IF = false) : s.examineInt e = .ok s := by
  cases hi : e.intr with
  | none => simp only [State.examineInt, hi]
  | some n =>
    have hif : s.flags.IF = false := h.resolve_left (by simp [hi])
    simp only [State.examineInt, hi, hif, Bool.false_eq_true, if_false]

theorem clearPrefixes_eq_self (h : s.pfx = Prefixes.none) : s.clearPrefixes = s := by
  rw [State.clearPrefixes, ← h]
  split <;> rfl

/-- A boundary without reset, at which no WAIT waits, is its three examinations, each of the state that the one before left. -/
theorem boundary_of_examined {trace : Bool} {t v w : State} (he : e = s.inputs.headD Inputs.idle)
    (hu : u = { s with inputs := s.inputs.tail }) (hr : e.reset = false) (hw : s.pause.isWaiting = false)
    (hn : u.examineNmi e = .ok t) (hi : t.examineInt e = .ok v)
    (ht : (if trace then v.examineTrace else .ok v) = .ok w) : s.boundary trace = .ok w.clearPrefixes := by
  subst he hu
  cases trace with
  | false =>
    obtain rfl : v = w := Except.ok.inj ht
    simp only [State.boundary, hr, hw, hn, hi, ok_bind, pure_res, Bool.false_eq_true, if_false]
  | true =>
    have ht : v.examineTrace = .ok w := ht
    simp only [State.boundary, hr, hw, hn, hi, ht, ok_bind, pure_res, Bool.false_eq_true, if_false, if_true]

/-! ### The halt (R288) -/

/-- Halted, nothing runs: a step is the two examinations of a boundary without the trace. -/
theorem step_of_halted {t v : State} (hh : s.halted = true) (hp : s.pause = .none) (he : e = s.inputs.headD Inputs.idle)
    (hu : u = { s with inputs := s.inputs.tail }) (hr : e.reset = false) (hn : u.examineNmi e = .ok t)
    (hi : t.examineInt e = .ok v) (hv : v.pfx = Prefixes.none) : step s = .next v :=
  calc step s
      = finish (s.boundary false) := if_pos hh
    _ = finish (.ok v.clearPrefixes) := congrArg finish (boundary_of_examined he hu hr (hp ▸ rfl) hn hi rfl)
    _ = .next v := by rw [clearPrefixes_eq_self hv, finish_ok]

/-- Settles O52: the NMI's entry clears IF, so no request is taken after it; without an NMI the request alone decides. -/
theorem haltedStep : Obligations.HaltedStep := by
  intro s u e hh hp hx he hu hr
  have hrun {t v : State} := step_of_halted (t := t) (v := v) hh hp he hu hr
  have hcan (n : Byte) : s.canEnter n → u.canEnter n := by rw [hu]; exact id
  have hup : u.pause = .none := by rw [hu]; exact hp
  have hux : u.pfx = Prefixes.none := by rw [hu]; exact hx
  obtain ⟨hsegs, hip, hflags, hlatch, hout⟩ : s.segs = u.segs ∧ s.ip = u.ip ∧ s.flags = u.flags ∧
      s.nmiBlocked = u.nmiBlocked ∧ s.outputs = u.outputs := by rw [hu]; exact ⟨rfl, rfl, rfl, rfl, rfl⟩
  rw [hsegs, hip, hflags, hlatch, hout]
  refine ⟨fun hnmi hc => ⟨?nmi, entered_halted _ _ _ _⟩, fun hnmi => ⟨fun n hreq hif hc => ?request, fun hreq => ?idle⟩⟩
  case nmi =>
    have hn := (examineNmi_of_taken hnmi).trans (enterNmi_of_pause_none hup (hcan 2 hc))
    have hif : (u.entered 2 u.segs.cs u.ip).flags.IF = false := by rw [entered_flags]
    have hpfx := (entered_pfx u 2 u.segs.cs u.ip).trans hux
    generalize u.entered 2 u.segs.cs u.ip = t at hn hif hpfx ⊢
    exact hrun hn (examineInt_of_not_taken (.inr hif)) hpfx
  case request =>
    have hi := (examineInt_of_taken hreq hif).trans (enter_of_pause_none (s := u.emit _) hup (hcan n hc))
    exact hrun (examineNmi_of_not_taken hnmi) hi ((entered_pfx _ _ _ _).trans hux)
  case idle => exact hrun (examineNmi_of_not_taken hnmi) (examineInt_of_not_taken hreq) hux

end Sys2Proof.Machine
end

section
/-! SUPPORT. Repeated string instructions (47_prefixes R304 to R309): the element that each form repeats, what iterations keep
and change, then the whole repetition and the one that stops after each iteration. -/

namespace Sys2Proof.Machine

variable {k : StrKind} {i : Instr} {size n m : Nat} {el : State → Res State} {p : RepKind} {s t u v : State}
  {q : Prefixes}

/-! ### The two forms and their elements -/

/-- A form of a string operation, the size of its elements and the operation on one element. -/
inductive StrKind.Form (k : StrKind) : Instr → Nat → (State → Res State) → Prop
  | byte : k.Form k.byteForm 1 k.byteElement
  | word : k.Form k.wordForm 2 k.wordElement

/-- The condition on ZF that ends a repetition (R304). -/
def StrKind.cond (k : StrKind) (p : RepKind) : Option RepKind := if k.testsZf then some p else none

theorem exists_element (h : i = k.byteForm ∧ size = 1 ∨ i = k.wordForm ∧ size = 2) : ∃ el, k.Form i size el := by
  obtain ⟨rfl, rfl⟩ | ⟨rfl, rfl⟩ := h
  · exact ⟨_, .byte⟩
  · exact ⟨_, .word⟩

theorem exists_form (h : i = k.byteForm ∨ i = k.wordForm) : ∃ size el, k.Form i size el :=
  h.elim (fun hb => ⟨1, exists_element (.inl ⟨hb, rfl⟩)⟩) fun hw => ⟨2, exists_element (.inr ⟨hw, rfl⟩)⟩

theorem StrKind.Form.exec_of_none (hf : k.Form i size el) (h : s.pfx.rep = none) : exec i s = finish (el s) := by
  cases hf with
  | byte => exact exec_byteForm k h
  | word => exact exec_wordForm k h

theorem plainRep_of_some (h : s.pfx.rep = some p) : plainRep i el s = finish (repeated i el none s) := by
  simp only [plainRep, h]

theorem condRep_of_some (h : s.pfx.rep = some p) : condRep i el s = finish (repeated i el (some p) s) := by
  simp only [condRep, h]

/-- With a repeat each form is the repetition of its element. -/
theorem StrKind.Form.exec_of_some (hf : k.Form i size el) (h : s.pfx.rep = some p) :
    exec i s = finish (repeated i el (k.cond p) s) := by
  cases hf <;> cases k with
  | movs | lods | stos => exact plainRep_of_some h
  | cmps | scas => exact condRep_of_some h

theorem repStop_cond (k : StrKind) (p : RepKind) (s : State) : repStop (k.cond p) s = !k.goesOn p s := by
  cases hz : k.testsZf <;> cases p <;> simp [repStop, StrKind.cond, StrKind.goesOn, hz, bne]

/-! ### The repeat prefix does not matter to one element -/

/-- The state with other prefixes collected. -/
def State.withPfx (s : State) (q : Prefixes) : State := { s with pfx := q }

theorem dataSeg_withPfx (h : q.seg = s.pfx.seg) : (s.withPfx q).dataSeg = s.dataSeg := by
  simp only [State.dataSeg, State.withPfx, h]
  rfl

theorem put8_withPfx (a : Nat) (b : Byte) : (s.withPfx q).put8 a b = (s.put8 a b).withPfx q := by
  unfold State.put8 State.withPfx
  split <;> rfl

theorem physWrite8_withPfx (a : Nat) (b : Byte) :
    (s.withPfx q).physWrite8 a b = (·.withPfx q) <$> s.physWrite8 a b := by
  have hd : (s.withPfx q).declares a = s.declares a := rfl
  rw [State.physWrite8, State.physWrite8, hd, put8_withPfx]
  split <;> rfl

theorem memWrite8_withPfx (g o : Word) (b : Byte) :
    (s.withPfx q).memWrite8 g o b = (·.withPfx q) <$> s.memWrite8 g o b := physWrite8_withPfx _ _

theorem memWrite16_withPfx (g o w : Word) :
    (s.withPfx q).memWrite16 g o w = (·.withPfx q) <$> s.memWrite16 g o w := by
  simp only [State.memWrite16, physWrite8_withPfx, map_bind, bind_map_left]
  rfl

theorem memRead8_withPfx (g o : Word) : (s.withPfx q).memRead8 g o = s.memRead8 g o := rfl

theorem memRead16_withPfx (g o : Word) : (s.withPfx q).memRead16 g o = s.memRead16 g o := rfl

/-- One element reads the segment override only: it commutes with any change of the other prefixes, in its fault too. -/
theorem StrKind.Form.element_withPfx (hf : k.Form i size el) (h : q.seg = s.pfx.seg) :
    el (s.withPfx q) = (·.withPfx q) <$> el s := by
  cases hf with
  | byte =>
    cases k <;> simp only [StrKind.byteElement, movs8, cmps8, scas8, lods8, stos8, dataSeg_withPfx h, memRead8_withPfx,
      memWrite8_withPfx, map_bind, bind_map_left] <;> rfl
  | word =>
    cases k <;> simp only [StrKind.wordElement, movs16, cmps16, scas16, lods16, stos16, dataSeg_withPfx h,
      memRead16_withPfx, memWrite16_withPfx, map_bind, bind_map_left] <;> rfl

/-- The same state with the repeat prefix taken away. -/
def State.unrepeated (s : State) : State := s.withPfx { s.pfx with rep := none }

/-- One iteration of a repetition is one execution without the prefix, the prefixes put back, and CX decremented (R305). -/
theorem StrKind.Form.repOnce_eq (hf : k.Form i size el) (s : State) :
    repOnce el s = (fun t => (t.withPfx s.pfx).setReg16 .cx (t.regs.cx - 1)) <$> el s.unrepeated := by
  have he : el s = (·.withPfx s.pfx) <$> el s.unrepeated := hf.element_withPfx (s := s.unrepeated) (q := s.pfx) rfl
  rw [repOnce, he, bind_map_left]
  rfl

theorem StrKind.Form.repOnce_of_next (hf : k.Form i size el) (h : exec i s.unrepeated = .next t) :
    repOnce el s = .ok ((t.withPfx s.pfx).setReg16 .cx (t.regs.cx - 1)) := by
  rw [hf.repOnce_eq, finish_eq_next.1 ((hf.exec_of_none rfl).symm.trans h), ok_map]

theorem StrKind.Form.repOnce_of_fault {f : Fault} (hf : k.Form i size el) (h : exec i s.unrepeated = .fault f) :
    repOnce el s = .error f := by
  rw [hf.repOnce_eq, finish_eq_fault.1 ((hf.exec_of_none rfl).symm.trans h)]
  rfl

/-! ### What iterations change -/

/-- How far `n` elements move an index register (R238). -/
def stride (df : Bool) (size n : Nat) : Word := BitVec.ofInt 16 ((if df then -(size : Int) else size) * n)

theorem stride_zero (df : Bool) (size : Nat) : stride df size 0 = 0 := by simp [stride]

theorem stride_succ (df : Bool) (size n : Nat) : stride df size (n + 1) = stride df size n + stride df size 1 := by
  rw [stride, stride, stride, ← BitVec.ofInt_add, ← mul_add, Nat.cast_add]

theorem advanced_si (k : StrKind) (s : State) (size n : Nat) :
    (k.advanced s size n).regs.si = if k.usesSi then s.regs.si + stride s.flags.DF size n else s.regs.si := rfl

theorem advanced_di (k : StrKind) (s : State) (size n : Nat) :
    (k.advanced s size n).regs.di = if k.usesDi then s.regs.di + stride s.flags.DF size n else s.regs.di := rfl

/-- What `n` iterations have done to the registers and the flags, and what they have left alone (R231 to R238, R305). -/
structure StrKind.Ran (k : StrKind) (size n : Nat) (s t : State) : Prop where
  cx : t.regs.cx = s.regs.cx - BitVec.ofNat 16 n
  si : t.regs.si = (k.advanced s size n).regs.si
  di : t.regs.di = (k.advanced s size n).regs.di
  ax : k ≠ .lods → t.regs.ax = s.regs.ax
  bx : t.regs.bx = s.regs.bx
  dx : t.regs.dx = s.regs.dx
  bp : t.regs.bp = s.regs.bp
  sp : t.regs.sp = s.regs.sp
  flags : k.testsZf = false → t.flags = s.flags
  df : t.flags.DF = s.flags.DF
  cfg : t.cfg = s.cfg
  pause : t.pause = s.pause

theorem StrKind.Ran.refl (k : StrKind) (size : Nat) (s : State) : k.Ran size 0 s s where
  cx := (BitVec.sub_zero _).symm
  si := by simp [advanced_si, stride_zero]
  di := by simp [advanced_di, stride_zero]
  ax _ := rfl
  bx := rfl
  dx := rfl
  bp := rfl
  sp := rfl
  flags _ := rfl
  df := rfl
  cfg := rfl
  pause := rfl

/-- A store leaves the registers and the flags. -/
theorem StrKind.Ran.of_eq (h : k.Ran size n s u) (hr : t.regs = u.regs) (hf : t.flags = u.flags) (hc : t.cfg = u.cfg)
    (hp : t.pause = u.pause) : k.Ran size n s t where
  cx := hr ▸ h.cx
  si := hr ▸ h.si
  di := hr ▸ h.di
  ax := hr ▸ h.ax
  bx := hr ▸ h.bx
  dx := hr ▸ h.dx
  bp := hr ▸ h.bp
  sp := hr ▸ h.sp
  flags := hf ▸ h.flags
  df := hf ▸ h.df
  cfg := hc ▸ h.cfg
  pause := hp ▸ h.pause

theorem StrKind.Ran.storeByte (h : k.Ran size n s u) (g o : Word) (b : Byte) : k.Ran size n s (u.storeByte g o b) :=
  h.of_eq (by simp) (by simp) (by simp) (by simp)

theorem StrKind.Ran.storeWord (h : k.Ran size n s u) (g o w : Word) : k.Ran size n s (u.storeWord g o w) :=
  h.of_eq (by simp) (by simp) (by simp) (by simp)

theorem StrKind.Ran.setFlags (h : k.Ran size n s u) (hk : k.testsZf = true) {f : Flags} (hd : f.DF = u.flags.DF) :
    k.Ran size n s { u with flags := f } :=
  { h with
    flags := fun hz => absurd hz (by simp [hk])
    df := hd.trans h.df }

theorem StrKind.Ran.setAx (h : StrKind.Ran .lods size n s u) (w : Word) : StrKind.Ran .lods size n s (u.setReg16 .ax w) :=
  { h with ax := fun hk => absurd rfl hk }

theorem StrKind.Ran.byteEffect (h : k.Ran size n s u) : k.Ran size n s (k.byteEffect u) := by
  cases k with
  | movs | stos => exact h.storeByte _ _ _
  | cmps | scas => exact h.setFlags rfl rfl
  | lods => exact h.setAx _

theorem StrKind.Ran.wordEffect (h : k.Ran size n s u) : k.Ran size n s (k.wordEffect u) := by
  cases k with
  | movs | stos => exact h.storeWord _ _ _
  | cmps | scas => exact h.setFlags rfl rfl
  | lods => exact h.setAx _

/-- The indexes moved past one more element, and CX decremented. -/
theorem StrKind.Ran.iterate (h : k.Ran size n s u) :
    k.Ran size (n + 1) s ((k.advanced u size 1).setReg16 .cx (u.regs.cx - 1)) :=
  { h with
    cx := by
      change u.regs.cx - 1 = _
      rw [h.cx, BitVec.ofNat_add, BitVec.sub_sub]
      rfl
    si := by
      change (k.advanced u size 1).regs.si = _
      rw [advanced_si, advanced_si, h.si, advanced_si, h.df, stride_succ _ _ n]
      split
      · exact BitVec.add_assoc _ _ _
      · rfl
    di := by
      change (k.advanced u size 1).regs.di = _
      rw [advanced_di, advanced_di, h.di, advanced_di, h.df, stride_succ _ _ n]
      split
      · exact BitVec.add_assoc _ _ _
      · rfl }

/-! ### One iteration -/

theorem repOnce_of_element (h : el u = .ok (k.advanced t size 1)) :
    repOnce el u = .ok ((k.advanced t size 1).setReg16 .cx (t.regs.cx - 1)) := by
  rw [repOnce, h]
  rfl

/-- With all memory declared an iteration runs. -/
theorem StrKind.Form.repOnce_ok (hf : k.Form i size el) (h : u.fullyMapped) : ∃ v, repOnce el u = .ok v := by
  cases hf with
  | byte => exact ⟨_, repOnce_of_element (byteElement_ok k (strHasByte_of_fullyMapped h k))⟩
  | word => exact ⟨_, repOnce_of_element (wordElement_ok k (strHasWord_of_fullyMapped h k))⟩

/-- An iteration that runs is one more. -/
theorem StrKind.Form.ran_repOnce (hf : k.Form i size el) (h : k.Ran size n s u) (hv : repOnce el u = .ok v) :
    k.Ran size (n + 1) s v := by
  obtain ⟨w, hw, -⟩ := bind_eq_ok.1 hv
  cases hf with
  | byte =>
    have he := byteElement_ok k (hasByte_of_byteElement k hw)
    rw [repOnce_of_element he] at hv
    cases hv
    exact h.byteEffect.iterate
  | word =>
    have he := wordElement_ok k (hasWord_of_wordElement k hw)
    rw [repOnce_of_element he] at hv
    cases hv
    exact h.wordEffect.iterate

/-! ### The whole repetition -/

theorem fullyMapped_congr (hc : t.cfg = s.cfg) (h : s.fullyMapped) : t.fullyMapped := by
  unfold State.fullyMapped State.declares
  rwa [hc]

/-- From the state after `n` iterations the loop makes at most `b` more: all of them, or it stops at its test before. -/
theorem StrKind.Form.repLoop_ran (hf : k.Form i size el) (cond : Option RepKind) (hs : s.fullyMapped) (b : Nat)
    (hu : k.Ran size n s u) :
    ∃ t m, repLoop el cond b u = .ok t ∧ k.Ran size m s t ∧ m ≤ n + b ∧
      (m = n + b ∨ n < m ∧ repStop cond t = true) := by
  induction b generalizing n u with
  | zero => exact ⟨u, n, rfl, hu, le_rfl, .inl rfl⟩
  | succ b ih =>
    obtain ⟨v, hv⟩ := hf.repOnce_ok (fullyMapped_congr hu.cfg hs)
    have hran := hf.ran_repOnce hu hv
    by_cases hstop : repStop cond v = true
    · exact ⟨v, n + 1, by simp [repLoop, hv, hstop], hran, by omega, .inr ⟨n.lt_succ_self, hstop⟩⟩
    · obtain ⟨t, m, ht, hm, hle, hend⟩ := ih hran
      exact ⟨t, m, by simp [repLoop, hv, hstop, ht], hm, by omega, hend.imp (by omega) fun ⟨hlt, h⟩ => ⟨by omega, h⟩⟩

theorem repCount_pos (s : State) : 0 < repCount s := by
  rw [repCount]
  split
  · decide
  · next h => exact Nat.pos_of_ne_zero fun h0 => h (BitVec.eq_of_toNat_eq h0)

theorem repCount_le (s : State) : repCount s ≤ 2 ^ 16 := by
  rw [repCount]
  split
  · exact le_rfl
  · exact s.regs.cx.isLt.le

/-- Modulo 2^16 the count is CX: entered with 0 it runs 65536 times (R306). -/
theorem ofNat_repCount (s : State) : BitVec.ofNat 16 (repCount s) = s.regs.cx := by
  rw [repCount]
  split
  · next h => rw [h]; rfl
  · simp

/-- After an iteration that leaves CX other than 0, one iteration less is to be made. -/
theorem repCount_eq_succ (h : u.regs.cx = s.regs.cx - 1) (h0 : u.regs.cx ≠ 0) : repCount s = repCount u + 1 := by
  have hu : repCount u = u.regs.cx.toNat := if_neg h0
  have hpos := repCount_pos u
  have hle := repCount_le s
  have hspos := repCount_pos s
  rw [← ofNat_repCount s] at h
  rw [h] at hu
  bv_omega

theorem goesOn_eq_false_of_cx_zero (h : s.regs.cx = 0) : k.goesOn p s = false := by
  simp [StrKind.goesOn, h]

theorem cx_ne_zero_of_goesOn (h : k.goesOn p s = true) : s.regs.cx ≠ 0 := fun h0 =>
  absurd h (by simp [goesOn_eq_false_of_cx_zero h0])

/-- MOVS, LODS and STOS stop at CX = 0 only (R304). -/
theorem cx_zero_of_not_goesOn (hk : k.testsZf = false) (h : k.goesOn p s = false) : s.regs.cx = 0 := by
  simpa [StrKind.goesOn, hk] using h

/-- The whole repetition makes 1 to 65536 iterations and ends where it may not go on. -/
theorem StrKind.Form.repeated_whole (hf : k.Form i size el) (p : RepKind) (hs : s.fullyMapped)
    (hr : s.cfg.repInterruptible = false) :
    ∃ t m, repeated i el (k.cond p) s = .ok t ∧ k.Ran size m s t ∧ 1 ≤ m ∧ m ≤ 2 ^ 16 ∧ k.goesOn p t = false := by
  obtain ⟨t, m, ht, hm, hle, hend⟩ := hf.repLoop_ran (k.cond p) hs (repCount s) (.refl k size s)
  have hpos := repCount_pos s
  have hcount := repCount_le s
  refine ⟨t, m, by simp [repeated, hr, ht], hm, by omega, by omega, ?_⟩
  obtain hall | ⟨-, hstop⟩ := hend
  · refine goesOn_eq_false_of_cx_zero ?_
    rw [hm.cx, hall, Nat.zero_add, ofNat_repCount]
    exact BitVec.sub_self _
  · simpa [repStop_cond] using hstop

/-- The mark that a repetition which stops after each iteration leaves (R309). -/
theorem repeated_once (hr : s.cfg.repInterruptible = true) (h : repOnce el s = .ok u) :
    repeated i el (k.cond p) s = .ok (if k.goesOn p u then { u with pause := .repeating i } else u) := by
  cases hg : k.goesOn p u <;> simp [repeated, hr, h, repStop_cond, hg]

/-- One iteration of the whole repetition, and then the repetition from there. -/
theorem StrKind.Form.exec_unrolls (hf : k.Form i size el) (hp : s.pfx.rep = some p) (hr : s.cfg.repInterruptible = false)
    (h : repOnce el s = .ok u) (hup : u.pfx = s.pfx) : exec i s = if k.goesOn p u then exec i u else .next u := by
  have hran := hf.ran_repOnce (.refl k size s) h
  have hloop {w : State} (hw : w.cfg = s.cfg) : repeated i el (k.cond p) w = repLoop el (k.cond p) (repCount w) w := by
    rw [repeated, hw, hr]; rfl
  rw [hf.exec_of_some hp, hf.exec_of_some (hup ▸ hp), hloop rfl, hloop hran.cfg]
  cases hg : k.goesOn p u with
  | true =>
    rw [repCount_eq_succ hran.cx (cx_ne_zero_of_goesOn hg)]
    simp [repLoop, h, repStop_cond, hg]
  | false =>
    rw [← Nat.sub_add_cancel (repCount_pos s)]
    simp [repLoop, h, repStop_cond, hg]

/-- Settles O44: the loop's first iteration is the execution without the prefix; the iterations that remain are those that the
repetition from the next state counts. -/
theorem repeatUnrolls : Obligations.RepeatUnrolls := by
  intro k p s i hi _ hp hr
  obtain ⟨size, el, hf⟩ := exists_form hi
  refine ⟨fun t ht => ⟨_, rfl, hf.exec_unrolls hp hr (hf.repOnce_of_next ht) rfl⟩, fun f h => ?_⟩
  rw [hf.exec_of_some hp, repeated, hr, ← Nat.sub_add_cancel (repCount_pos s), finish_eq_fault]
  simp [repLoop, hf.repOnce_of_fault h]

/-- From a CX other than 0, the number of iterations that bring it to 0 (R305). -/
theorem StrKind.Ran.count_eq (h : k.Ran size m s t) (h0 : t.regs.cx = 0) (hs : s.regs.cx ≠ 0) (hpos : 1 ≤ m)
    (hle : m ≤ 2 ^ 16) : m = s.regs.cx.toNat := by
  have hcx := h.cx
  rw [h0] at hcx
  bv_omega

/-- With all memory declared a repetition completes after 1 to 65536 iterations: whole, or one with its mark. -/
theorem StrKind.Form.exec_completes (hf : k.Form i size el) (hp : s.pfx.rep = some p) (hs : s.fullyMapped) :
    ∃ (t : State) (m : Nat) (z : Pause), exec i s = .next { t with pause := z } ∧
      k.Ran size m s t ∧ 1 ≤ m ∧ m ≤ 2 ^ 16 ∧
      (s.cfg.repInterruptible = false → k.goesOn p t = false ∧ z = s.pause) ∧
      (s.cfg.repInterruptible = true → m = 1 ∧ z = if k.goesOn p t then .repeating i else s.pause) := by
  cases hr : s.cfg.repInterruptible with
  | false =>
    obtain ⟨t, m, ht, hran, hpos, hle, hend⟩ := hf.repeated_whole p hs hr
    refine ⟨t, m, s.pause, ?_, hran, hpos, hle, fun _ => ⟨hend, rfl⟩, nofun⟩
    rw [hf.exec_of_some hp, ht, finish_ok, ← hran.pause]
  | true =>
    obtain ⟨t, ht⟩ := hf.repOnce_ok hs
    have hran := hf.ran_repOnce (.refl k size s) ht
    refine ⟨t, 1, if k.goesOn p t then .repeating i else s.pause, ?_, hran, le_rfl, by decide, nofun,
      fun _ => ⟨rfl, rfl⟩⟩
    rw [hf.exec_of_some hp, repeated_once hr ht, finish_ok, ← hran.pause]
    split <;> rfl

/-- Settles O45: the iterations counted by `StrKind.Ran` are the changes that the statement lists. -/
theorem repeatCompletes : Obligations.RepeatCompletes := by
  intro k p s i size hi _ hp hs
  obtain ⟨el, hf⟩ := exists_element hi
  obtain ⟨t, m, z, hx, hran, hpos, hle, hwhole, honce⟩ := hf.exec_completes hp hs
  refine ⟨_, m, hx, hpos, hle, hran.cx, fun hr => ?_, honce, hran.flags, hran.si, hran.di, hran.ax, hran.bx, hran.dx, hran.bp,
    hran.sp⟩
  obtain ⟨hend, hz⟩ := hwhole hr
  refine ⟨hend, hz, fun hk => ?_⟩
  have h0 := cx_zero_of_not_goesOn hk hend
  exact ⟨h0, fun hne => hran.count_eq h0 hne hpos hle⟩

/-! ### A repetition that goes on in the next step (R309, R344) -/

theorem step_of_repeating (hh : s.halted = false) (hp : s.pause = .repeating i) :
    step s = atBoundary true (exec i { s with pause := .none }) := by
  simp [step, runStep, hh, hp]

theorem resumeIp_of_repeating (h : s.pause = .repeating i) : s.resumeIp = s.instrStart := by
  simp only [State.resumeIp, h]

theorem enterNmi_of_repeating (hp : s.pause = .repeating i) (hc : s.canEnter 2) :
    s.enterNmi = .ok { s.entered 2 s.segs.cs s.instrStart with pause := .none, nmiBlocked := true } :=
  enterNmi_eq_ok.2 ⟨hc, by rw [resumeIp_of_repeating hp]⟩

/-- Without TF no trace is taken (R326). -/
theorem examineTrace_of_not_trapping (h : s.flags.TF = false) : s.examineTrace = .ok s :=
  if_neg (by simp [h])

/-- The boundary's NMI: its entry clears IF and TF, so that neither a request nor the trace is taken after it. -/
theorem boundary_of_repeating {e : Inputs} {es : List Inputs} (hp : s.pause = .repeating i) (he : s.inputs = e :: es)
    (hr : e.reset = false) (hn : e.nmi = true) (hb : s.nmiBlocked = false) (hc : s.canEnter 2) :
    s.boundary true = .ok { ({ s with inputs := es }).entered 2 s.segs.cs s.instrStart with
      nmiBlocked := true, pause := .none, pfx := Prefixes.none } := by
  obtain ⟨u, hu⟩ : ∃ u, u = { s with inputs := es } := ⟨_, rfl⟩
  have hup : u.pause = .repeating i := by rw [hu]; exact hp
  have hub : u.nmiBlocked = false := by rw [hu]; exact hb
  have huc : u.canEnter 2 := by rw [hu]; exact hc
  obtain ⟨hsegs, hstart⟩ : s.segs = u.segs ∧ s.instrStart = u.instrStart := by rw [hu]; exact ⟨rfl, rfl⟩
  rw [← hu, hsegs, hstart]
  have hnmi := (examineNmi_of_taken ⟨hn, hub⟩).trans (enterNmi_of_repeating hup huc)
  have hflags := entered_flags u 2 u.segs.cs u.instrStart
  generalize u.entered 2 u.segs.cs u.instrStart = t at hnmi hflags ⊢
  have hIF : t.flags.IF = false := by rw [hflags]
  have hTF : t.flags.TF = false := by rw [hflags]
  exact boundary_of_examined (trace := true) (by rw [he]; rfl) (by rw [hu, he]; rfl) hr (by rw [hp]; rfl) hnmi
    (examineInt_of_not_taken (.inr hIF)) (examineTrace_of_not_trapping (s := { t with pause := .none, nmiBlocked := true }) hTF)

/-- Settles O46: one iteration and its mark, then the step and the boundary of a state so marked. -/
theorem repeatInterruptible : Obligations.RepeatInterruptible := by
  refine ⟨fun k p s t i hi _ hp hr ht => ⟨_, rfl, ?_⟩, fun _ _ => step_of_repeating, fun _ _ _ _ => boundary_of_repeating⟩
  obtain ⟨size, el, hf⟩ := exists_form hi
  rw [hf.exec_of_some hp, repeated_once hr (hf.repOnce_of_next ht)]
  rfl

end Sys2Proof.Machine
end

section
/-! SUPPORT. Which prefixes may precede which instructions (47_prefixes R303, R307): the opcodes of the model's lists, read off
the encoder. -/

namespace Sys2Proof

/-- The ModRegR/M byte of a memory operand carries the Reg field asked for. -/
theorem encMem_regOf (n : BitVec 3) (m : MemOp) : ∃ b tl, encMem n m = b :: tl ∧ regOf b = n := by
  obtain ⟨b, tl, he, hr, -⟩ := encMem_cons n m
  exact ⟨b, tl, he, hr⟩

theorem encRm8_regOf (n : BitVec 3) (d : Rm8) : ∃ b tl, encRm8 n d = b :: tl ∧ regOf b = n := by
  cases d with
  | reg r => exact ⟨_, _, rfl, regOf_modrm _ _ _⟩
  | mem m => exact encMem_regOf n m

theorem encRm16_regOf (n : BitVec 3) (d : Rm16) : ∃ b tl, encRm16 n d = b :: tl ∧ regOf b = n := by
  cases d with
  | reg r => exact ⟨_, _, rfl, regOf_modrm _ _ _⟩
  | mem m => exact encMem_regOf n m

end Sys2Proof

namespace Sys2Proof.Machine

variable {i : Instr} {op next b c : Byte} {bs : List Byte} {n : BitVec 3} {p : Prefixes} {r : RepKind}

/-! ### LOCK (R303) -/

/-- Of the byte after the opcode the list of R303 asks for the Reg field only. -/
theorem lockOpcode_congr (h : regOf b = regOf c) : lockOpcode op b = lockOpcode op c := by
  simp only [lockOpcode, h]

/-- Does R303 list the opcode that the bytes begin with? -/
def lockListed (bs : List Byte) : Bool := lockOpcode (bs.headD 0) (bs.tail.headD 0)

/-- An opcode of no group tells by itself. -/
theorem eq_lockListed {x : Bool} (hx : x = lockOpcode op (bs.headD 0)) : x = lockListed (op :: bs) := hx

/-- The group of an opcode with an operand is told by the Reg field that the encoder was asked for. -/
theorem eq_lockListed_operand {x : Bool} (h : ∃ b tl, bs = b :: tl ∧ regOf b = n) (hx : x = lockOpcode op (modrm 0 n 0)) :
    x = lockListed (op :: bs) := by
  obtain ⟨b, tl, rfl, hr⟩ := h
  exact hx.trans (lockOpcode_congr ((regOf_modrm _ _ _).trans hr.symm))

/-- The same with an immediate after the operand. -/
theorem eq_lockListed_operand_append {x : Bool} (cs : List Byte) (h : ∃ b tl, bs = b :: tl ∧ regOf b = n)
    (hx : x = lockOpcode op (modrm 0 n 0)) : x = lockListed (op :: bs ++ cs) := by
  obtain ⟨b, tl, rfl, hr⟩ := h
  exact eq_lockListed_operand ⟨b, tl ++ cs, rfl, hr⟩ hx

/-- No encoding that R103 refuses is listed in R303. -/
theorem lockOpcode_of_unusedPair (h : unusedPair op next = true) : lockOpcode op next = false := by
  have hn := (regOf next).isLt
  rw [unusedPair_eq_listedR103] at h
  revert h
  unfold listedR103 lockOpcode
  generalize op.toNat = o
  generalize (regOf next).toNat = n at hn
  generalize (modOf next).toNat = m
  simp only [List.contains_eq_mem, List.mem_cons, List.not_mem_nil, or_false, Bool.decide_or, Bool.or_eq_true, beq_iff_eq,
    Bool.and_eq_true, decide_eq_true_eq, bne_iff_ne, ne_eq, Bool.or_eq_false_iff, Bool.and_eq_false_imp,
    decide_eq_false_iff_not, beq_eq_false_iff_ne]
  omega

theorem lockOpcode_esc (x : BitVec 3) (b : Byte) : lockOpcode (0b11011#5 ++ x) b = false := by
  have hx : x = 0 ∨ x = 1 ∨ x = 2 ∨ x = 3 ∨ x = 4 ∨ x = 5 ∨ x = 6 ∨ x = 7 := by revert x; decide
  rcases hx with rfl | rfl | rfl | rfl | rfl | rfl | rfl | rfl <;> rfl

/-- The instructions that the model accepts after LOCK are those whose opcode R303 lists. The cases are grouped by what tells:
the opcode alone, the opcode with a register in it, or the Reg field of the byte after it. -/
theorem lockable_eq_lockListed (hwf : i.wf = true) : i.lockable = lockListed (encode i) := by
  cases i
  case unused op next => exact (lockOpcode_of_unusedPair hwf).symm
  case esc x m => exact (lockOpcode_esc _ _).symm
  case pushR16 r | popR16 r | incR16 r | decR16 r | movR8Imm8 r _ | movR16Imm16 r _ => cases r <;> rfl
  case incRm8 | decRm8 | notRm8 | negRm8 | mulRm8 | imulRm8 | divRm8 | idivRm8 =>
    exact eq_lockListed_operand (encRm8_regOf _ _) rfl
  case incRm16 | decRm16 | pushRm16 | callRm16 | jmpRm16 | notRm16 | negRm16 | mulRm16 | imulRm16 | divRm16 | idivRm16 =>
    exact eq_lockListed_operand (encRm16_regOf _ _) rfl
  case callM | jmpM => exact eq_lockListed_operand (encMem_regOf _ _) rfl
  case addRm8Imm8 | orRm8Imm8 | adcRm8Imm8 | sbbRm8Imm8 | andRm8Imm8 | subRm8Imm8 | xorRm8Imm8 | cmpRm8Imm8 | testRm8Imm8 =>
    exact eq_lockListed_operand_append _ (encRm8_regOf _ _) rfl
  case addRm16Imm16 | orRm16Imm16 | adcRm16Imm16 | sbbRm16Imm16 | andRm16Imm16 | subRm16Imm16 | xorRm16Imm16 | cmpRm16Imm16
      | testRm16Imm16 | addRm16Imm8 | adcRm16Imm8 | sbbRm16Imm8 | subRm16Imm8 | cmpRm16Imm8 =>
    exact eq_lockListed_operand_append _ (encRm16_regOf _ _) rfl
  all_goals exact eq_lockListed rfl

/-! ### The repeat prefixes (R304, R307) -/

/-- The instructions that a repeat prefix may precede are the forms of the string operations, and the model's mark tells
whether the operation tests ZF. -/
theorem repTests_eq_some_iff {z : Bool} :
    i.repTests = some z ↔ ∃ k : StrKind, k.testsZf = z ∧ (i = k.byteForm ∨ i = k.wordForm) := by
  constructor
  · intro h
    cases i
    case movsb => exact ⟨.movs, Option.some.inj h, .inl rfl⟩
    case movsw => exact ⟨.movs, Option.some.inj h, .inr rfl⟩
    case cmpsb => exact ⟨.cmps, Option.some.inj h, .inl rfl⟩
    case cmpsw => exact ⟨.cmps, Option.some.inj h, .inr rfl⟩
    case scasb => exact ⟨.scas, Option.some.inj h, .inl rfl⟩
    case scasw => exact ⟨.scas, Option.some.inj h, .inr rfl⟩
    case lodsb => exact ⟨.lods, Option.some.inj h, .inl rfl⟩
    case lodsw => exact ⟨.lods, Option.some.inj h, .inr rfl⟩
    case stosb => exact ⟨.stos, Option.some.inj h, .inl rfl⟩
    case stosw => exact ⟨.stos, Option.some.inj h, .inr rfl⟩
    all_goals cases h
  · rintro ⟨k, rfl, rfl | rfl⟩ <;> cases k <;> rfl

/-- The repeat prefix that is allowed makes one of the fourteen pairs. -/
theorem repAllowed_iff : repAllowed r i = true ↔ ∃ k : StrKind, k.pairs r = true ∧ (i = k.byteForm ∨ i = k.wordForm) := by
  have hz : repAllowed r i = true ↔ ∃ z, i.repTests = some z ∧ (r == .rep || z) = true := by
    cases r <;> cases h : i.repTests <;> simp [repAllowed, h]
  rw [hz]
  constructor
  · rintro ⟨z, hz, hp⟩
    obtain ⟨k, rfl, hk⟩ := repTests_eq_some_iff.1 hz
    exact ⟨k, hp, hk⟩
  · rintro ⟨k, hp, hk⟩
    exact ⟨k.testsZf, repTests_eq_some_iff.2 ⟨k, rfl, hk⟩, hp⟩

/-! ### The check of the step -/

theorem prefixRefusal_eq_none_iff :
    prefixRefusal p i = none ↔ (p.lock = true → i.lockable = true) ∧ ∀ r, p.rep = some r → repAllowed r i = true := by
  cases hl : p.lock <;> cases hi : i.lockable <;> cases hr : p.rep <;> simp [prefixRefusal, hl, hi, hr]

/-- Settles O48: the check is the two lists of the model, and these are R303's and R307's. -/
theorem prefixLegality : Obligations.PrefixLegality := by
  intro p i hwf _
  rw [prefixRefusal_eq_none_iff, lockable_eq_lockListed hwf]
  exact and_congr_right' (forall₂_congr fun _ _ => repAllowed_iff)

end Sys2Proof.Machine
end

section
/-! SUPPORT. The boundary between instructions (60_exceptions R326, R334, R340 to R342, 70_reset R370, R371): what each of its
ways leaves, and the statements about it. -/

namespace Sys2Proof.Machine

variable {s t u v : State} {e : Inputs} {n : Byte} {i : Instr} {trace : Bool}

/-! ### Reset (R370, R371) -/

/-- The reset is examined first, and whatever the boundary belongs to. -/
theorem boundary_of_reset {es : List Inputs} (he : s.inputs = e :: es) (hr : e.reset = true) (trace : Bool) :
    s.boundary trace = .ok ({ s with inputs := es } : State).resetEvent := by
  simp only [State.boundary, he, List.headD_cons, List.tail_cons, hr, if_true]

/-- Settles O53: every field is read off the reset event; a halted step is a boundary. -/
theorem resetEvent : Obligations.ResetEvent := by
  intro s e es trace he hr
  exact ⟨_, boundary_of_reset he hr trace, resetState.1, rfl, rfl, rfl, rfl, rfl, rfl, rfl, rfl, rfl, rfl, rfl,
    fun hh => (if_pos hh).trans (congrArg finish (boundary_of_reset he hr false))⟩

/-! ### What is left of the prefixes -/

theorem clearPrefixes_of_pause_none (h : s.pause = .none) : s.clearPrefixes = { s with pfx := Prefixes.none } := by
  simp only [State.clearPrefixes, h]

theorem clearPrefixes_of_repeating (h : s.pause = .repeating i) : s.clearPrefixes = s := by
  simp only [State.clearPrefixes, h]

theorem clearPrefixes_of_isWaiting (h : s.pause.isWaiting = true) : s.clearPrefixes = { s with pfx := Prefixes.none } := by
  unfold State.clearPrefixes
  split
  next hp => cases hp ▸ h
  all_goals rfl

theorem exists_repeating_of_ne_none {p : Pause} (hw : p.isWaiting = false) (hn : p ≠ .none) : ∃ i, p = .repeating i := by
  cases p with
  | repeating i => exact ⟨i, rfl⟩
  | none => exact absurd rfl hn
  | waiting => cases hw

/-! ### The trace (R326) -/

theorem examineTrace_of_due (hs : s.tfAtStart = true) (hTF : s.flags.TF = true) (hp : s.pause = .none) :
    s.examineTrace = s.enter 1 := if_pos (by simp [hs, hTF, hp])

theorem examineTrace_of_not_due (h : s.tfAtStart = true → s.flags.TF = true → s.pause ≠ .none) :
    s.examineTrace = .ok s := if_neg (by simpa using h)

theorem traceIf_of_not_due (h : trace = true → s.tfAtStart = true → s.flags.TF = true → s.pause ≠ .none) :
    (if trace then s.examineTrace else .ok s) = .ok s := by
  cases trace with
  | false => rfl
  | true => exact examineTrace_of_not_due (h rfl)

/-! ### The ways of a boundary (R340) -/

/-- While WAIT waits the sample alone is taken (R289). -/
theorem boundary_of_waiting (he : e = s.inputs.headD Inputs.idle) (hu : u = { s with inputs := s.inputs.tail })
    (hr : e.reset = false) (hw : s.pause.isWaiting = true) : s.boundary trace = .ok { u with pfx := Prefixes.none } := by
  subst he hu
  simp only [State.boundary, hr, hw, Bool.false_eq_true, if_false, if_true]
  exact congrArg Except.ok (clearPrefixes_of_isWaiting (s := { s with inputs := s.inputs.tail }) hw)

section Examined

variable (he : e = s.inputs.headD Inputs.idle) (hu : u = { s with inputs := s.inputs.tail }) (hr : e.reset = false)
  (hw : s.pause.isWaiting = false)
include he hu hr hw

/-- After an entry TF is clear and no repetition goes on: no trace follows (R334). -/
theorem boundary_of_served (hn : u.examineNmi e = .ok t) (hi : t.examineInt e = .ok v) (hTF : v.flags.TF = false)
    (hp : v.pause = .none) : s.boundary trace = .ok { v with pfx := Prefixes.none } := by
  have ht := traceIf_of_not_due (s := v) (trace := trace) fun _ _ h => absurd (hTF.symm.trans h) Bool.false_ne_true
  rw [boundary_of_examined he hu hr hw hn hi ht, clearPrefixes_of_pause_none hp]

/-- The NMI's entry clears IF, so no request follows (R341). -/
theorem boundary_of_nmi (hnmi : e.nmi = true) (hb : u.nmiBlocked = false) (hc : u.canEnter 2) : s.boundary trace =
    .ok { u.entered 2 u.segs.cs u.resumeIp with nmiBlocked := true, pause := .none, pfx := Prefixes.none } := by
  have hn := (examineNmi_of_taken ⟨hnmi, hb⟩).trans (enterNmi_eq_ok.2 ⟨hc, rfl⟩)
  have hflags := entered_flags u 2 u.segs.cs u.resumeIp
  generalize u.entered 2 u.segs.cs u.resumeIp = t at hn hflags ⊢
  have hIF : t.flags.IF = false := by rw [hflags]
  have hTF : t.flags.TF = false := by rw [hflags]
  exact boundary_of_served he hu hr hw hn (examineInt_of_not_taken (.inr hIF)) hTF rfl

/-- The request is examined in the state the NMI left, here unchanged (R342). -/
theorem boundary_of_request (hn : u.examineNmi e = .ok u) (hreq : e.intr = some n) (hif : u.flags.IF = true)
    (hc : u.canEnter n) : s.boundary trace =
    .ok { (u.emit (.intAck n)).entered n u.segs.cs u.resumeIp with pause := .none, pfx := Prefixes.none } := by
  have hi : u.examineInt e = .ok { (u.emit (.intAck n)).entered n u.segs.cs u.resumeIp with pause := .none } :=
    (examineInt_of_taken hreq hif).trans (enter_eq_ok.2 ⟨hc, rfl⟩)
  have hflags := entered_flags (u.emit (.intAck n)) n u.segs.cs u.resumeIp
  generalize (u.emit (.intAck n)).entered n u.segs.cs u.resumeIp = t at hi hflags ⊢
  have hTF : t.flags.TF = false := by rw [hflags]
  exact boundary_of_served he hu hr hw hn hi hTF rfl

theorem boundary_of_trace (hn : u.examineNmi e = .ok u) (hi : u.examineInt e = .ok u) (hs : u.tfAtStart = true)
    (hTF : u.flags.TF = true) (hp : u.pause = .none) (hc : u.canEnter 1) :
    s.boundary true = .ok { u.entered 1 u.segs.cs u.ip with pfx := Prefixes.none } := by
  have ht : u.examineTrace = .ok (u.entered 1 u.segs.cs u.ip) :=
    (examineTrace_of_due hs hTF hp).trans (enter_of_pause_none hp hc)
  rw [boundary_of_examined (trace := true) he hu hr hw hn hi ht, clearPrefixes_of_pause_none ((entered_pause ..).trans hp)]

theorem boundary_of_quiet (hn : u.examineNmi e = .ok u) (hi : u.examineInt e = .ok u)
    (ht : trace = true → u.tfAtStart = true → u.flags.TF = true → u.pause ≠ .none) :
    s.boundary trace = .ok u.clearPrefixes :=
  boundary_of_examined he hu hr hw hn hi (traceIf_of_not_due ht)

end Examined

/-- Settles O51: each clause is one way of the boundary; only the list of samples differs between `s` and `u`. -/
theorem boundaryOrder : Obligations.BoundaryOrder := by
  intro s u e trace he hu hr
  refine ⟨boundary_of_waiting he hu hr, fun hw => ?_⟩
  have hcan (n : Byte) : s.canEnter n → u.canEnter n := by rw [hu]; exact id
  obtain ⟨hsegs, hip, hflags, hlatch, hout⟩ : s.segs = u.segs ∧ s.ip = u.ip ∧ s.flags = u.flags ∧
      s.nmiBlocked = u.nmiBlocked ∧ s.outputs = u.outputs := by rw [hu]; exact ⟨rfl, rfl, rfl, rfl, rfl⟩
  obtain ⟨hpause, htf, hresume⟩ : s.pause = u.pause ∧ s.tfAtStart = u.tfAtStart ∧ s.resumeIp = u.resumeIp := by
    rw [hu]; exact ⟨rfl, rfl, rfl⟩
  rw [hsegs, hip, hflags, hlatch, hout, hpause, htf, hresume]
  refine ⟨fun hnmi hb hc => boundary_of_nmi he hu hr hw hnmi hb (hcan 2 hc), fun hblocked => ?_⟩
  have hn : u.examineNmi e = .ok u :=
    examineNmi_of_not_taken fun ⟨hnmi, hfree⟩ => Bool.false_ne_true (hfree.symm.trans (hblocked hnmi))
  refine ⟨fun n hreq hif hc => boundary_of_request he hu hr hw hn hreq hif (hcan n hc), fun hreq => ?_⟩
  have hi := examineInt_of_not_taken (s := u) hreq
  refine ⟨?trace, fun hnot => ⟨fun hp => ?complete, fun hp => ?repeating⟩⟩
  case trace =>
    rintro rfl hs hTF hp hc
    exact boundary_of_trace he hu hr hw hn hi hs hTF hp (hcan 1 hc)
  case complete => rw [boundary_of_quiet he hu hr hw hn hi hnot, clearPrefixes_of_pause_none hp]
  case repeating =>
    obtain ⟨i, hp⟩ := exists_repeating_of_ne_none (hpause ▸ hw) hp
    rw [boundary_of_quiet he hu hr hw hn hi hnot, clearPrefixes_of_repeating hp]

end Sys2Proof.Machine
end

section
/-! SUPPORT. The words that pushes leave on the stack (20_memory R61, R62, R65), and the return from an interrupt after its entry
(60_exceptions R330, R332, 45_control_transfer R403). -/

namespace Sys2Proof.Machine

variable {s t : State} {g o p c i : Word}

/-! ### Words that do not overlap -/

theorem phys_mem_wordAddrs (s : State) (g o : Word) : phys g o ∈ s.wordAddrs g o := List.mem_cons_self

theorem highAddr_mem_wordAddrs (s : State) (g o : Word) : s.highAddr g o ∈ s.wordAddrs g o :=
  List.mem_cons_of_mem _ List.mem_cons_self

/-- Two words of one segment at different offsets of one parity share no byte, not even at the wraps. -/
theorem wordAddrs_disjoint (s : State) (g : Word) (hne : o ≠ p) (hpar : o.toNat % 2 = p.toNat % 2) :
    (s.wordAddrs g o).Disjoint (s.wordAddrs g p) := by
  have hne := mt BitVec.eq_of_toNat_eq hne
  have hg := g.isLt
  have ho := o.isLt
  have hp := p.isLt
  simp only [State.wordAddrs, List.disjoint_cons_left, List.disjoint_nil_left, List.mem_cons, List.not_mem_nil, or_false,
    and_true]
  unfold State.highAddr phys
  split
  · simp only [BitVec.toNat_add, show (1 : Word).toNat = 1 from rfl]
    omega
  · omega

theorem storeWord_wordAt_of_disjoint (hs : s.memOk) (hram : ∀ a ∈ s.wordAddrs g o, s.isRam a)
    (hd : (s.wordAddrs g o).Disjoint (s.wordAddrs g p)) (v : Word) : (s.storeWord g o v).wordAt g p = s.wordAt g p := by
  have hlo := phys_mem_wordAddrs s g o
  have hhi := highAddr_mem_wordAddrs s g o
  have hread : ∀ a ∈ s.wordAddrs g p, (s.storeWord g o v).mem.read a = s.mem.read a := fun a ha =>
    storeWord_read_of_ne hs (hram _ hlo) (hram _ hhi) v (fun h => hd hlo (h ▸ ha)) (fun h => hd hhi (h ▸ ha))
  have hh : (s.storeWord g o v).highAddr g p = s.highAddr g p := by simp [State.highAddr]
  rw [State.wordAt, State.byteAt, hh, hread _ (phys_mem_wordAddrs s g p), hread _ (highAddr_mem_wordAddrs s g p)]
  rfl

/-! ### The stack after a push -/

theorem stackWord_push_zero (hs : s.memOk) (hram : ∀ a ∈ s.wordAddrs s.segs.ss (s.regs.sp - 2), s.isRam a) (v : Word) :
    (s.pushed [v]).stackWord 0 = v := by
  have hsp : (s.pushed [v]).regs.sp + 2 * BitVec.ofNat 16 0 = s.regs.sp - 2 := by simp [pushed_sp, Regs.set]
  rw [State.stackWord, hsp, State.pushed_segs]
  exact storeWord_wordAt (s := s.setReg16 .sp (s.regs.sp - 2)) hs (hram _ (phys_mem_wordAddrs s _ _))
    (hram _ (highAddr_mem_wordAddrs s _ _)) v

/-- The words above stay, as long as the stack has not gone around its segment. -/
theorem stackWord_push_succ (hs : s.memOk) (hram : ∀ a ∈ s.wordAddrs s.segs.ss (s.regs.sp - 2), s.isRam a) (v : Word)
    {k : Nat} (hk : k + 1 < 2 ^ 15) : (s.pushed [v]).stackWord (k + 1) = s.stackWord k := by
  have hsp : (s.pushed [v]).regs.sp + 2 * BitVec.ofNat 16 (k + 1) = s.regs.sp + 2 * BitVec.ofNat 16 k := by
    rw [pushed_sp, BitVec.ofNat_add k 1]
    simp only [Regs.set, List.length_singleton]
    bv_omega
  rw [State.stackWord, hsp, State.pushed_segs]
  refine storeWord_wordAt_of_disjoint (s := s.setReg16 .sp (s.regs.sp - 2)) hs hram (wordAddrs_disjoint _ _ ?_ ?_) v
  · bv_omega
  · bv_omega

/-- The next push stores to the next of the words below the stack's top. -/
theorem pushed_wordAddrs (s : State) (vs : List Word) :
    (s.pushed vs).wordAddrs (s.pushed vs).segs.ss ((s.pushed vs).regs.sp - 2) =
      s.wordAddrs s.segs.ss (s.regs.sp - 2 * BitVec.ofNat 16 (vs.length + 1)) := by
  have hsp : (s.pushed vs).regs.sp - 2 = s.regs.sp - 2 * BitVec.ofNat 16 (vs.length + 1) := by
    rw [pushed_sp, BitVec.ofNat_add]
    simp only [Regs.set]
    bv_omega
  rw [hsp]
  simp [State.wordAddrs, State.highAddr]

theorem pushAddrs_succ (s : State) (n : Nat) :
    s.pushAddrs (n + 1) = s.pushAddrs n ++ s.wordAddrs s.segs.ss (s.regs.sp - 2 * BitVec.ofNat 16 (n + 1)) := by
  simp only [State.pushAddrs, List.range_succ, List.flatMap_append, List.flatMap_singleton]

/-- The words stand on the stack from the last pushed to the first. -/
theorem stackWord_pushed (hs : s.memOk) {vs : List Word} (hlen : vs.length ≤ 2 ^ 15)
    (hram : ∀ a ∈ s.pushAddrs vs.length, s.isRam a) {k : Nat} {w : Word} (hw : vs.reverse[k]? = some w) :
    (s.pushed vs).stackWord k = w := by
  induction vs using List.reverseRecOn generalizing k with
  | nil => simp at hw
  | append_singleton vs v ih =>
    rw [List.length_append, List.length_singleton] at hlen hram
    rw [pushAddrs_succ, ← pushed_wordAddrs, List.forall_mem_append] at hram
    obtain ⟨hbelow, hlast⟩ := hram
    have hmem : (s.pushed vs).memOk := (pushed_changesOnly le_rfl).memOk hs
    have hword : ∀ a ∈ (s.pushed vs).wordAddrs (s.pushed vs).segs.ss ((s.pushed vs).regs.sp - 2), (s.pushed vs).isRam a :=
      fun a ha => (isRam_congr (State.pushed_cfg vs) a).2 (hlast a ha)
    rw [pushed_append]
    rw [List.reverse_append, List.reverse_singleton, List.singleton_append] at hw
    cases k with
    | zero =>
      obtain rfl : v = w := by simpa using hw
      exact stackWord_push_zero hmem hword v
    | succ k =>
      rw [List.getElem?_cons_succ] at hw
      have hk : k < vs.length := by simpa using (List.getElem?_eq_some_iff.1 hw).1
      rw [stackWord_push_succ hmem hword v (by omega)]
      exact ih (by omega) hbelow hw

/-- What has been pushed can be popped. -/
theorem canPop_pushed {vs : List Word} (h : s.canPush vs.length) : (s.pushed vs).canPop vs.length := by
  intro k hk
  obtain ⟨m, hm⟩ : ∃ m, vs.length = k + (m + 1) := ⟨vs.length - 1 - k, by omega⟩
  have hsp : (s.pushed vs).regs.sp + 2 * BitVec.ofNat 16 k = s.regs.sp - 2 * BitVec.ofNat 16 (m + 1) := by
    rw [pushed_sp, hm, BitVec.ofNat_add k]
    simp only [Regs.set]
    bv_omega
  rw [hasWord_congr (State.pushed_cfg _), State.pushed_segs, hsp]
  exact h m (by omega)

/-! ### The stack of an entry (R330) -/

theorem stackWord_congr (hm : t.mem = s.mem) (hc : t.cfg = s.cfg) (hss : t.segs.ss = s.segs.ss)
    (hsp : t.regs.sp = s.regs.sp) (k : Nat) : t.stackWord k = s.stackWord k := by
  simp only [State.stackWord, State.wordAt, State.byteAt, State.highAddr, hm, hc, hss, hsp]

theorem canPop_congr (hc : t.cfg = s.cfg) (hss : t.segs.ss = s.segs.ss) (hsp : t.regs.sp = s.regs.sp) {k : Nat} :
    t.canPop k ↔ s.canPop k := by
  simp only [State.canPop, hasWord_congr hc, hss, hsp]

theorem entered_regs (s : State) (n : Byte) (c i : Word) :
    (s.entered n c i).regs = { s.regs with sp := s.regs.sp - 6 } := by
  simp only [State.entered, pushed_sp]
  rfl

theorem entered_segs (s : State) (n : Byte) (c i : Word) : (s.entered n c i).segs = { s.segs with
    cs := wordOf ((s.entered n c i).mem.read (4 * n.toNat + 2)) ((s.entered n c i).mem.read (4 * n.toNat + 3)) } := by
  simp only [State.entered]

theorem entered_ip (s : State) (n : Byte) (c i : Word) : (s.entered n c i).ip =
    wordOf ((s.entered n c i).mem.read (4 * n.toNat)) ((s.entered n c i).mem.read (4 * n.toNat + 1)) := by
  simp only [State.entered]

theorem entered_ss (s : State) (n : Byte) (c i : Word) :
    (s.entered n c i).segs.ss = (s.pushed [s.flags.toWord, c, i]).segs.ss := by
  rw [entered_segs, State.pushed_segs]

theorem entered_sp (s : State) (n : Byte) (c i : Word) :
    (s.entered n c i).regs.sp = (s.pushed [s.flags.toWord, c, i]).regs.sp := by
  simp only [State.entered]

/-- An entry leaves the three words that the return pops (R332). -/
theorem canPop_entered (h : s.canPush 3) (n : Byte) (c i : Word) : (s.entered n c i).canPop 3 :=
  (canPop_congr (entered_cfg s n c i) (entered_ss s n c i) (entered_sp s n c i)).2
    (canPop_pushed (vs := [s.flags.toWord, c, i]) h)

/-- On top of the stack after an entry are the return address and FLAGS (R330). -/
theorem entered_stackWord (hs : s.memOk) (hram : ∀ a ∈ s.pushAddrs 3, s.isRam a) (n : Byte) {c i : Word} {k : Nat} {w : Word}
    (hw : [i, c, s.flags.toWord][k]? = some w) : (s.entered n c i).stackWord k = w :=
  (stackWord_congr (entered_mem s n c i) (entered_cfg s n c i) (entered_ss s n c i) (entered_sp s n c i) k).trans
    (stackWord_pushed (vs := [s.flags.toWord, c, i]) hs (by simp) hram hw)

/-- IRET, when the top of the stack holds what the three words are told to be (R403). -/
theorem iret_next (h : s.canPop 3) (hi : s.stackWord 0 = i) (hc : s.stackWord 1 = c) {f : Flags}
    (hf : s.stackWord 2 = f.toWord) : exec .iret s = .next { s.popped 3 with
      ip := i, segs := { s.segs with cs := c }, flags := f, nmiBlocked := false, ahead := [] } :=
  finish_eq_next.2 (interruptReturn_eq_ok.2 ⟨h, by rw [hi, hc, hf, Flags.ofWord_toWord]⟩)

/-- Settles O40: the return pops the words that the entry pushed, and stores nothing. -/
theorem entryThenReturn : Obligations.EntryThenReturn := by
  intro s n c i hs hc hram
  have hentry : s.interrupt n c i = .ok (s.entered n c i) := interrupt_ok hc
  have hi : (s.entered n c i).stackWord 0 = i := entered_stackWord hs hram n rfl
  have hcs : (s.entered n c i).stackWord 1 = c := entered_stackWord hs hram n rfl
  have hf : (s.entered n c i).stackWord 2 = s.flags.toWord := entered_stackWord hs hram n rfl
  have hiret := iret_next (canPop_entered hc.1 n c i) hi hcs hf
  have hflags := entered_flags s n c i
  have hregs := entered_regs s n c i
  have hsegs := entered_segs s n c i
  have hip := entered_ip s n c i
  have hhalted := entered_halted s n c i
  generalize s.entered n c i = t at *
  refine ⟨t, _, hentry, hflags, hregs, hi, hcs, hf, hhalted, hip, hsegs, hiret, ?regs, ?segs, rfl, rfl,
    fun a ha => (interrupt_changesOnly hentry).read hs a ha⟩
  case regs => simp [State.popped, State.setReg16, hregs, Regs.set]
  case segs => rw [hsegs]

end Sys2Proof.Machine
end
